-- ==== Sys2Proof/Word.lean ====
section
/-! DEFINITION. The words of the machine (spec 00_scope R10): bytes and 16-bit values. -/
namespace Sys2Proof

/-- An 8-bit value: a data register, a Bus byte (R10). -/
abbrev Byte := BitVec 8

/-- A 16-bit value: SP, PC, a composite register, an address (R10). -/
abbrev Word := BitVec 16

end Sys2Proof
end

