-- ==== Sys2Proof/Syntax.lean ====
section
/-! DEFINITION. The instructions of the CORE: operand tokens, descriptors, the opcode table as a type (spec 30_encoding R65 to
R71), and `Instr`, one constructor per row of spec/opcode_table.json. A constructor stands for one descriptor name of the
reference table and carries the operand bytes its encoding holds; what a supplied table may still choose for it (`Entry`: length and
flag-effect code, R65) comes beside it from the decoder. The eleven rows "(none)" share the constructor `absent`. -/
namespace Sys2Proof

/-- The seven 8-bit data registers (R22). -/
inductive Reg8 where
  | A | B | C | D | E | H | L
  deriving DecidableEq, Repr

/-- The three composite registers (R23). -/
inductive Pair where
  | BC | DE | HL
  deriving DecidableEq, Repr

/-- The 16-bit register operands `rr` (R69, R71). -/
inductive Reg16 where
  | BC | DE | HL | SP
  deriving DecidableEq, Repr

/-- A composite register as a 16-bit operand. -/
def Pair.toReg16 : Pair → Reg16
  | .BC => .BC
  | .DE => .DE
  | .HL => .HL

/-- A number from 0 to 7: the bit index of BIT, RES and SET (R69, R71), the eighth part of RST's address. -/
inductive Oct where
  | n0 | n1 | n2 | n3 | n4 | n5 | n6 | n7
  deriving DecidableEq, Repr

/-- The number. -/
def Oct.val : Oct → Nat
  | .n0 => 0
  | .n1 => 1
  | .n2 => 2
  | .n3 => 3
  | .n4 => 4
  | .n5 => 5
  | .n6 => 6
  | .n7 => 7

/-- The condition codes (R69, R140). -/
inductive Cond where
  | NZ | Z | NC | C
  deriving DecidableEq, Repr

/-- What an `r` field of an opcode names: a register, or the memory operand (HL) for the code 6 (R69). -/
inductive Loc8 where
  | reg (r : Reg8)
  | indHL
  deriving DecidableEq, Repr

/-- Operand tokens (R71). `rst k` is the token of RST with address 8·k (`00H` to `38H`), `CB` the operand of the table's row
PREFIX CB, `other` any text that is none of these. Whether the text `C` is `reg8 .C` or `cond .C` is R72's rule. -/
inductive Token where
  | reg8 (r : Reg8)
  | reg16 (r : Reg16)
  | ind (p : Pair)
  | indHLinc
  | indHLdec
  | indC
  | indA16
  | indA8
  | d8
  | d16
  | a16
  | r8
  | cond (c : Cond)
  | bit (b : Oct)
  | rst (k : Oct)
  | spPlusR8
  | AF
  | CB
  | other (text : List Char)
  deriving DecidableEq, Repr

/-- The token an `r` field carries. -/
def Loc8.token : Loc8 → Token
  | .reg r => .reg8 r
  | .indHL => .ind .HL

/-- The mnemonics of the reference table, and any other text (R66). -/
inductive Mnemonic where
  | NOP | LD | INC | DEC | RLCA | ADD | RRCA | STOP | RLA
  | JR | RRA | DAA | CPL | SCF | CCF | HALT | ADC | SUB
  | SBC | AND | XOR | OR | CP | RET | POP | JP | CALL
  | PUSH | RST | PREFIX | RETI | LDH | DI | EI | RLC | RRC
  | RL | RR | SLA | SRA | SWAP | SRL | BIT | RES | SET
  | other (text : List Char)
  deriving DecidableEq, Repr

/-- A descriptor's name: mnemonic and ordered operand tokens (R66). -/
structure FormName where
  mnemonic : Mnemonic
  operands : List Token
  deriving DecidableEq, Repr

/-- One symbol of a flag-effect code (R32): `0`, `1`, `-`, or any other symbol. -/
inductive FlagSym where
  | force0
  | force1
  | keep
  | computed
  deriving DecidableEq, Repr

/-- A flag-effect code, in the order Z, N, H, C (R30, R65). -/
structure FlagCode where
  z : FlagSym
  n : FlagSym
  h : FlagSym
  c : FlagSym
  deriving DecidableEq, Repr

/-- What a table entry gives beside the name: total length in bytes and flag-effect code (R65). -/
structure Entry where
  len : Nat
  flags : FlagCode
  deriving DecidableEq, Repr

/-- InstructionDescriptor (R66, R21). -/
structure Descriptor where
  name : FormName
  entry : Entry
  deriving DecidableEq, Repr

/-- The two-section opcode table (R65): the entry of key k stands at position k; `none`, or no position, is an absent key. -/
structure OpcodeTable where
  primary : List (Option Descriptor)
  secondary : List (Option Descriptor)
  deriving DecidableEq, Repr

/-- The decoding parameters of R11: OPCODE_TABLE and PREFIX_BYTE. (IRQ_VECTORS stands in the interrupt sources of the state.) -/
structure Params where
  table : OpcodeTable
  prefixByte : Byte
  deriving DecidableEq, Repr

/-- The instructions, one constructor per row of spec/opcode_table.json. `n` is the byte after the opcode, `nn` the
little-endian 16-bit value after it (R68, R70); `r` and `b` are the fields of a pattern row (R67). `absent` is a key without an
entry, with its offending byte or bytes (R74); `prefix_CB` is a prefix byte with no byte after it (R75). -/
inductive Instr where
  | ld_BC_d16 (nn : Word)
  | ld_B_d8 (n : Byte)
  | ld_indA16_SP (nn : Word)
  | ld_C_d8 (n : Byte)
  | stop_0 (n : Byte)
  | ld_DE_d16 (nn : Word)
  | ld_D_d8 (n : Byte)
  | jr_r8 (n : Byte)
  | ld_E_d8 (n : Byte)
  | jr_NZ_r8 (n : Byte)
  | ld_HL_d16 (nn : Word)
  | ld_H_d8 (n : Byte)
  | jr_Z_r8 (n : Byte)
  | ld_L_d8 (n : Byte)
  | jr_NC_r8 (n : Byte)
  | ld_SP_d16 (nn : Word)
  | ld_indHL_d8 (n : Byte)
  | jr_C_r8 (n : Byte)
  | ld_A_d8 (n : Byte)
  | jp_NZ_a16 (nn : Word)
  | jp_a16 (nn : Word)
  | call_NZ_a16 (nn : Word)
  | add_A_d8 (n : Byte)
  | jp_Z_a16 (nn : Word)
  | call_Z_a16 (nn : Word)
  | call_a16 (nn : Word)
  | adc_A_d8 (n : Byte)
  | jp_NC_a16 (nn : Word)
  | absent (bytes : List Byte)
  | call_NC_a16 (nn : Word)
  | sub_d8 (n : Byte)
  | jp_C_a16 (nn : Word)
  | call_C_a16 (nn : Word)
  | sbc_A_d8 (n : Byte)
  | ldh_indA8_A (n : Byte)
  | and_d8 (n : Byte)
  | add_SP_r8 (n : Byte)
  | ld_indA16_A (nn : Word)
  | xor_d8 (n : Byte)
  | ldh_A_indA8 (n : Byte)
  | or_d8 (n : Byte)
  | ld_HL_SPr8 (n : Byte)
  | ld_A_indA16 (nn : Word)
  | cp_d8 (n : Byte)
  | rlc_r (r : Loc8)
  | rrc_r (r : Loc8)
  | rr_r (r : Loc8)
  | sla_r (r : Loc8)
  | sra_r (r : Loc8)
  | swap_r (r : Loc8)
  | srl_r (r : Loc8)
  | res_b_r (b : Oct) (r : Loc8)
  | set_b_r (b : Oct) (r : Loc8)
  | nop
  | ld_indBC_A
  | inc_BC
  | inc_B
  | dec_B
  | rlca
  | add_HL_BC
  | ld_A_indBC
  | dec_BC
  | inc_C
  | dec_C
  | rrca
  | ld_indDE_A
  | inc_DE
  | inc_D
  | dec_D
  | rla
  | add_HL_DE
  | ld_A_indDE
  | dec_DE
  | inc_E
  | dec_E
  | rra
  | ld_indHLinc_A
  | inc_HL
  | inc_H
  | dec_H
  | daa
  | add_HL_HL
  | ld_A_indHLinc
  | dec_HL
  | inc_L
  | dec_L
  | cpl
  | ld_indHLdec_A
  | inc_SP
  | inc_indHL
  | dec_indHL
  | scf
  | add_HL_SP
  | ld_A_indHLdec
  | dec_SP
  | inc_A
  | dec_A
  | ccf
  | ld_B_B
  | ld_B_C
  | ld_B_D
  | ld_B_E
  | ld_B_H
  | ld_B_L
  | ld_B_indHL
  | ld_B_A
  | ld_C_B
  | ld_C_C
  | ld_C_D
  | ld_C_E
  | ld_C_H
  | ld_C_L
  | ld_C_indHL
  | ld_C_A
  | ld_D_B
  | ld_D_C
  | ld_D_D
  | ld_D_E
  | ld_D_H
  | ld_D_L
  | ld_D_indHL
  | ld_D_A
  | ld_E_B
  | ld_E_C
  | ld_E_D
  | ld_E_E
  | ld_E_H
  | ld_E_L
  | ld_E_indHL
  | ld_E_A
  | ld_H_B
  | ld_H_C
  | ld_H_D
  | ld_H_E
  | ld_H_H
  | ld_H_L
  | ld_H_indHL
  | ld_H_A
  | ld_L_B
  | ld_L_C
  | ld_L_D
  | ld_L_E
  | ld_L_H
  | ld_L_L
  | ld_L_indHL
  | ld_L_A
  | ld_indHL_B
  | ld_indHL_C
  | ld_indHL_D
  | ld_indHL_E
  | ld_indHL_H
  | ld_indHL_L
  | halt
  | ld_indHL_A
  | ld_A_B
  | ld_A_C
  | ld_A_D
  | ld_A_E
  | ld_A_H
  | ld_A_L
  | ld_A_indHL
  | ld_A_A
  | add_A_B
  | add_A_C
  | add_A_D
  | add_A_E
  | add_A_H
  | add_A_L
  | add_A_indHL
  | add_A_A
  | adc_A_B
  | adc_A_C
  | adc_A_D
  | adc_A_E
  | adc_A_H
  | adc_A_L
  | adc_A_indHL
  | adc_A_A
  | sub_B
  | sub_C
  | sub_D
  | sub_E
  | sub_H
  | sub_L
  | sub_indHL
  | sub_A
  | sbc_A_B
  | sbc_A_C
  | sbc_A_D
  | sbc_A_E
  | sbc_A_H
  | sbc_A_L
  | sbc_A_indHL
  | sbc_A_A
  | and_B
  | and_C
  | and_D
  | and_E
  | and_H
  | and_L
  | and_indHL
  | and_A
  | xor_B
  | xor_C
  | xor_D
  | xor_E
  | xor_H
  | xor_L
  | xor_indHL
  | xor_A
  | or_B
  | or_C
  | or_D
  | or_E
  | or_H
  | or_L
  | or_indHL
  | or_A
  | cp_B
  | cp_C
  | cp_D
  | cp_E
  | cp_H
  | cp_L
  | cp_indHL
  | cp_A
  | ret_NZ
  | pop_BC
  | push_BC
  | rst_00H
  | ret_Z
  | ret
  | prefix_CB
  | rst_08H
  | ret_NC
  | pop_DE
  | push_DE
  | rst_10H
  | ret_C
  | reti
  | rst_18H
  | pop_HL
  | ld_indC_A
  | push_HL
  | rst_20H
  | jp_indHL
  | rst_28H
  | pop_AF
  | ld_A_indC
  | di
  | push_AF
  | rst_30H
  | ld_SP_HL
  | ei
  | rst_38H
  | rl_B
  | rl_C
  | rl_D
  | rl_E
  | rl_H
  | rl_L
  | rl_indHL
  | rl_A
  | bit_0_B
  | bit_0_C
  | bit_0_D
  | bit_0_E
  | bit_0_H
  | bit_0_L
  | bit_0_indHL
  | bit_0_A
  | bit_1_B
  | bit_1_C
  | bit_1_D
  | bit_1_E
  | bit_1_H
  | bit_1_L
  | bit_1_indHL
  | bit_1_A
  | bit_2_B
  | bit_2_C
  | bit_2_D
  | bit_2_E
  | bit_2_H
  | bit_2_L
  | bit_2_indHL
  | bit_2_A
  | bit_3_B
  | bit_3_C
  | bit_3_D
  | bit_3_E
  | bit_3_H
  | bit_3_L
  | bit_3_indHL
  | bit_3_A
  | bit_4_B
  | bit_4_C
  | bit_4_D
  | bit_4_E
  | bit_4_H
  | bit_4_L
  | bit_4_indHL
  | bit_4_A
  | bit_5_B
  | bit_5_C
  | bit_5_D
  | bit_5_E
  | bit_5_H
  | bit_5_L
  | bit_5_indHL
  | bit_5_A
  | bit_6_B
  | bit_6_C
  | bit_6_D
  | bit_6_E
  | bit_6_H
  | bit_6_L
  | bit_6_indHL
  | bit_6_A
  | bit_7_B
  | bit_7_C
  | bit_7_D
  | bit_7_E
  | bit_7_H
  | bit_7_L
  | bit_7_indHL
  | bit_7_A
  deriving DecidableEq, Repr

/-! ### The families of R76, as functions of their fields -/

/-- ADD A,x for a register or (HL). -/
def Instr.addLoc : Loc8 → Instr
  | .reg .B => .add_A_B
  | .reg .C => .add_A_C
  | .reg .D => .add_A_D
  | .reg .E => .add_A_E
  | .reg .H => .add_A_H
  | .reg .L => .add_A_L
  | .reg .A => .add_A_A
  | .indHL => .add_A_indHL

/-- ADC A,x for a register or (HL). -/
def Instr.adcLoc : Loc8 → Instr
  | .reg .B => .adc_A_B
  | .reg .C => .adc_A_C
  | .reg .D => .adc_A_D
  | .reg .E => .adc_A_E
  | .reg .H => .adc_A_H
  | .reg .L => .adc_A_L
  | .reg .A => .adc_A_A
  | .indHL => .adc_A_indHL

/-- SBC A,x for a register or (HL). -/
def Instr.sbcLoc : Loc8 → Instr
  | .reg .B => .sbc_A_B
  | .reg .C => .sbc_A_C
  | .reg .D => .sbc_A_D
  | .reg .E => .sbc_A_E
  | .reg .H => .sbc_A_H
  | .reg .L => .sbc_A_L
  | .reg .A => .sbc_A_A
  | .indHL => .sbc_A_indHL

/-- SUB x for a register or (HL). -/
def Instr.subLoc : Loc8 → Instr
  | .reg .B => .sub_B
  | .reg .C => .sub_C
  | .reg .D => .sub_D
  | .reg .E => .sub_E
  | .reg .H => .sub_H
  | .reg .L => .sub_L
  | .reg .A => .sub_A
  | .indHL => .sub_indHL

/-- CP x for a register or (HL). -/
def Instr.cpLoc : Loc8 → Instr
  | .reg .B => .cp_B
  | .reg .C => .cp_C
  | .reg .D => .cp_D
  | .reg .E => .cp_E
  | .reg .H => .cp_H
  | .reg .L => .cp_L
  | .reg .A => .cp_A
  | .indHL => .cp_indHL

/-- AND x for a register or (HL). -/
def Instr.andLoc : Loc8 → Instr
  | .reg .B => .and_B
  | .reg .C => .and_C
  | .reg .D => .and_D
  | .reg .E => .and_E
  | .reg .H => .and_H
  | .reg .L => .and_L
  | .reg .A => .and_A
  | .indHL => .and_indHL

/-- XOR x for a register or (HL). -/
def Instr.xorLoc : Loc8 → Instr
  | .reg .B => .xor_B
  | .reg .C => .xor_C
  | .reg .D => .xor_D
  | .reg .E => .xor_E
  | .reg .H => .xor_H
  | .reg .L => .xor_L
  | .reg .A => .xor_A
  | .indHL => .xor_indHL

/-- OR x for a register or (HL). -/
def Instr.orLoc : Loc8 → Instr
  | .reg .B => .or_B
  | .reg .C => .or_C
  | .reg .D => .or_D
  | .reg .E => .or_E
  | .reg .H => .or_H
  | .reg .L => .or_L
  | .reg .A => .or_A
  | .indHL => .or_indHL

/-- INC x for a register or (HL). -/
def Instr.incLoc : Loc8 → Instr
  | .reg .B => .inc_B
  | .reg .C => .inc_C
  | .reg .D => .inc_D
  | .reg .E => .inc_E
  | .reg .H => .inc_H
  | .reg .L => .inc_L
  | .reg .A => .inc_A
  | .indHL => .inc_indHL

/-- DEC x for a register or (HL). -/
def Instr.decLoc : Loc8 → Instr
  | .reg .B => .dec_B
  | .reg .C => .dec_C
  | .reg .D => .dec_D
  | .reg .E => .dec_E
  | .reg .H => .dec_H
  | .reg .L => .dec_L
  | .reg .A => .dec_A
  | .indHL => .dec_indHL

/-- RL x for a register or (HL). -/
def Instr.rlLoc : Loc8 → Instr
  | .reg .B => .rl_B
  | .reg .C => .rl_C
  | .reg .D => .rl_D
  | .reg .E => .rl_E
  | .reg .H => .rl_H
  | .reg .L => .rl_L
  | .reg .A => .rl_A
  | .indHL => .rl_indHL

/-- ADD HL,rr. -/
def Instr.addHLReg16 : Reg16 → Instr
  | .BC => .add_HL_BC
  | .DE => .add_HL_DE
  | .HL => .add_HL_HL
  | .SP => .add_HL_SP

/-- INC rr. -/
def Instr.incReg16 : Reg16 → Instr
  | .BC => .inc_BC
  | .DE => .inc_DE
  | .HL => .inc_HL
  | .SP => .inc_SP

/-- DEC rr. -/
def Instr.decReg16 : Reg16 → Instr
  | .BC => .dec_BC
  | .DE => .dec_DE
  | .HL => .dec_HL
  | .SP => .dec_SP

/-- LD rr,d16. -/
def Instr.ldReg16Imm : Reg16 → Word → Instr
  | .BC, nn => .ld_BC_d16 nn
  | .DE, nn => .ld_DE_d16 nn
  | .HL, nn => .ld_HL_d16 nn
  | .SP, nn => .ld_SP_d16 nn

/-- LD r,d8. -/
def Instr.ldRegImm : Reg8 → Byte → Instr
  | .B, n => .ld_B_d8 n
  | .C, n => .ld_C_d8 n
  | .D, n => .ld_D_d8 n
  | .E, n => .ld_E_d8 n
  | .H, n => .ld_H_d8 n
  | .L, n => .ld_L_d8 n
  | .A, n => .ld_A_d8 n

/-- LD r,r2. -/
def Instr.ldRegReg : Reg8 → Reg8 → Instr
  | .B, .B => .ld_B_B
  | .B, .C => .ld_B_C
  | .B, .D => .ld_B_D
  | .B, .E => .ld_B_E
  | .B, .H => .ld_B_H
  | .B, .L => .ld_B_L
  | .B, .A => .ld_B_A
  | .C, .B => .ld_C_B
  | .C, .C => .ld_C_C
  | .C, .D => .ld_C_D
  | .C, .E => .ld_C_E
  | .C, .H => .ld_C_H
  | .C, .L => .ld_C_L
  | .C, .A => .ld_C_A
  | .D, .B => .ld_D_B
  | .D, .C => .ld_D_C
  | .D, .D => .ld_D_D
  | .D, .E => .ld_D_E
  | .D, .H => .ld_D_H
  | .D, .L => .ld_D_L
  | .D, .A => .ld_D_A
  | .E, .B => .ld_E_B
  | .E, .C => .ld_E_C
  | .E, .D => .ld_E_D
  | .E, .E => .ld_E_E
  | .E, .H => .ld_E_H
  | .E, .L => .ld_E_L
  | .E, .A => .ld_E_A
  | .H, .B => .ld_H_B
  | .H, .C => .ld_H_C
  | .H, .D => .ld_H_D
  | .H, .E => .ld_H_E
  | .H, .H => .ld_H_H
  | .H, .L => .ld_H_L
  | .H, .A => .ld_H_A
  | .L, .B => .ld_L_B
  | .L, .C => .ld_L_C
  | .L, .D => .ld_L_D
  | .L, .E => .ld_L_E
  | .L, .H => .ld_L_H
  | .L, .L => .ld_L_L
  | .L, .A => .ld_L_A
  | .A, .B => .ld_A_B
  | .A, .C => .ld_A_C
  | .A, .D => .ld_A_D
  | .A, .E => .ld_A_E
  | .A, .H => .ld_A_H
  | .A, .L => .ld_A_L
  | .A, .A => .ld_A_A

/-- LD r,(HL). -/
def Instr.ldRegInd : Reg8 → Instr
  | .B => .ld_B_indHL
  | .C => .ld_C_indHL
  | .D => .ld_D_indHL
  | .E => .ld_E_indHL
  | .H => .ld_H_indHL
  | .L => .ld_L_indHL
  | .A => .ld_A_indHL

/-- LD (HL),r. -/
def Instr.ldIndReg : Reg8 → Instr
  | .B => .ld_indHL_B
  | .C => .ld_indHL_C
  | .D => .ld_indHL_D
  | .E => .ld_indHL_E
  | .H => .ld_indHL_H
  | .L => .ld_indHL_L
  | .A => .ld_indHL_A

/-- JR cc,r8. -/
def Instr.jrCond : Cond → Byte → Instr
  | .NZ, n => .jr_NZ_r8 n
  | .Z, n => .jr_Z_r8 n
  | .NC, n => .jr_NC_r8 n
  | .C, n => .jr_C_r8 n

/-- JP cc,a16. -/
def Instr.jpCond : Cond → Word → Instr
  | .NZ, nn => .jp_NZ_a16 nn
  | .Z, nn => .jp_Z_a16 nn
  | .NC, nn => .jp_NC_a16 nn
  | .C, nn => .jp_C_a16 nn

/-- CALL cc,a16. -/
def Instr.callCond : Cond → Word → Instr
  | .NZ, nn => .call_NZ_a16 nn
  | .Z, nn => .call_Z_a16 nn
  | .NC, nn => .call_NC_a16 nn
  | .C, nn => .call_C_a16 nn

/-- RET cc. -/
def Instr.retCond : Cond → Instr
  | .NZ => .ret_NZ
  | .Z => .ret_Z
  | .NC => .ret_NC
  | .C => .ret_C

/-- PUSH qq. -/
def Instr.pushPair : Pair → Instr
  | .BC => .push_BC
  | .DE => .push_DE
  | .HL => .push_HL

/-- POP qq. -/
def Instr.popPair : Pair → Instr
  | .BC => .pop_BC
  | .DE => .pop_DE
  | .HL => .pop_HL

/-- RST. -/
def Instr.rstVec : Oct → Instr
  | .n0 => .rst_00H
  | .n1 => .rst_08H
  | .n2 => .rst_10H
  | .n3 => .rst_18H
  | .n4 => .rst_20H
  | .n5 => .rst_28H
  | .n6 => .rst_30H
  | .n7 => .rst_38H

/-- BIT b,x. -/
def Instr.bitLoc : Oct → Loc8 → Instr
  | .n0, .reg .B => .bit_0_B
  | .n0, .reg .C => .bit_0_C
  | .n0, .reg .D => .bit_0_D
  | .n0, .reg .E => .bit_0_E
  | .n0, .reg .H => .bit_0_H
  | .n0, .reg .L => .bit_0_L
  | .n0, .reg .A => .bit_0_A
  | .n0, .indHL => .bit_0_indHL
  | .n1, .reg .B => .bit_1_B
  | .n1, .reg .C => .bit_1_C
  | .n1, .reg .D => .bit_1_D
  | .n1, .reg .E => .bit_1_E
  | .n1, .reg .H => .bit_1_H
  | .n1, .reg .L => .bit_1_L
  | .n1, .reg .A => .bit_1_A
  | .n1, .indHL => .bit_1_indHL
  | .n2, .reg .B => .bit_2_B
  | .n2, .reg .C => .bit_2_C
  | .n2, .reg .D => .bit_2_D
  | .n2, .reg .E => .bit_2_E
  | .n2, .reg .H => .bit_2_H
  | .n2, .reg .L => .bit_2_L
  | .n2, .reg .A => .bit_2_A
  | .n2, .indHL => .bit_2_indHL
  | .n3, .reg .B => .bit_3_B
  | .n3, .reg .C => .bit_3_C
  | .n3, .reg .D => .bit_3_D
  | .n3, .reg .E => .bit_3_E
  | .n3, .reg .H => .bit_3_H
  | .n3, .reg .L => .bit_3_L
  | .n3, .reg .A => .bit_3_A
  | .n3, .indHL => .bit_3_indHL
  | .n4, .reg .B => .bit_4_B
  | .n4, .reg .C => .bit_4_C
  | .n4, .reg .D => .bit_4_D
  | .n4, .reg .E => .bit_4_E
  | .n4, .reg .H => .bit_4_H
  | .n4, .reg .L => .bit_4_L
  | .n4, .reg .A => .bit_4_A
  | .n4, .indHL => .bit_4_indHL
  | .n5, .reg .B => .bit_5_B
  | .n5, .reg .C => .bit_5_C
  | .n5, .reg .D => .bit_5_D
  | .n5, .reg .E => .bit_5_E
  | .n5, .reg .H => .bit_5_H
  | .n5, .reg .L => .bit_5_L
  | .n5, .reg .A => .bit_5_A
  | .n5, .indHL => .bit_5_indHL
  | .n6, .reg .B => .bit_6_B
  | .n6, .reg .C => .bit_6_C
  | .n6, .reg .D => .bit_6_D
  | .n6, .reg .E => .bit_6_E
  | .n6, .reg .H => .bit_6_H
  | .n6, .reg .L => .bit_6_L
  | .n6, .reg .A => .bit_6_A
  | .n6, .indHL => .bit_6_indHL
  | .n7, .reg .B => .bit_7_B
  | .n7, .reg .C => .bit_7_C
  | .n7, .reg .D => .bit_7_D
  | .n7, .reg .E => .bit_7_E
  | .n7, .reg .H => .bit_7_H
  | .n7, .reg .L => .bit_7_L
  | .n7, .reg .A => .bit_7_A
  | .n7, .indHL => .bit_7_indHL

/-! ### What an instruction is made of -/

/-- An instruction as the decoder finds it: the name of a table entry, an absent key, or a prefix byte cut short. -/
inductive InstrView where
  | named (name : FormName)
  | absent (bytes : List Byte)
  | truncated
  deriving DecidableEq, Repr

/-- The descriptor name each constructor stands for. -/
def Instr.view : Instr → InstrView
  | .ld_BC_d16 _ => .named ⟨.LD, [.reg16 .BC, .d16]⟩
  | .ld_B_d8 _ => .named ⟨.LD, [.reg8 .B, .d8]⟩
  | .ld_indA16_SP _ => .named ⟨.LD, [.indA16, .reg16 .SP]⟩
  | .ld_C_d8 _ => .named ⟨.LD, [.reg8 .C, .d8]⟩
  | .stop_0 _ => .named ⟨.STOP, [.bit .n0]⟩
  | .ld_DE_d16 _ => .named ⟨.LD, [.reg16 .DE, .d16]⟩
  | .ld_D_d8 _ => .named ⟨.LD, [.reg8 .D, .d8]⟩
  | .jr_r8 _ => .named ⟨.JR, [.r8]⟩
  | .ld_E_d8 _ => .named ⟨.LD, [.reg8 .E, .d8]⟩
  | .jr_NZ_r8 _ => .named ⟨.JR, [.cond .NZ, .r8]⟩
  | .ld_HL_d16 _ => .named ⟨.LD, [.reg16 .HL, .d16]⟩
  | .ld_H_d8 _ => .named ⟨.LD, [.reg8 .H, .d8]⟩
  | .jr_Z_r8 _ => .named ⟨.JR, [.cond .Z, .r8]⟩
  | .ld_L_d8 _ => .named ⟨.LD, [.reg8 .L, .d8]⟩
  | .jr_NC_r8 _ => .named ⟨.JR, [.cond .NC, .r8]⟩
  | .ld_SP_d16 _ => .named ⟨.LD, [.reg16 .SP, .d16]⟩
  | .ld_indHL_d8 _ => .named ⟨.LD, [.ind .HL, .d8]⟩
  | .jr_C_r8 _ => .named ⟨.JR, [.cond .C, .r8]⟩
  | .ld_A_d8 _ => .named ⟨.LD, [.reg8 .A, .d8]⟩
  | .jp_NZ_a16 _ => .named ⟨.JP, [.cond .NZ, .a16]⟩
  | .jp_a16 _ => .named ⟨.JP, [.a16]⟩
  | .call_NZ_a16 _ => .named ⟨.CALL, [.cond .NZ, .a16]⟩
  | .add_A_d8 _ => .named ⟨.ADD, [.reg8 .A, .d8]⟩
  | .jp_Z_a16 _ => .named ⟨.JP, [.cond .Z, .a16]⟩
  | .call_Z_a16 _ => .named ⟨.CALL, [.cond .Z, .a16]⟩
  | .call_a16 _ => .named ⟨.CALL, [.a16]⟩
  | .adc_A_d8 _ => .named ⟨.ADC, [.reg8 .A, .d8]⟩
  | .jp_NC_a16 _ => .named ⟨.JP, [.cond .NC, .a16]⟩
  | .absent bytes => .absent bytes
  | .call_NC_a16 _ => .named ⟨.CALL, [.cond .NC, .a16]⟩
  | .sub_d8 _ => .named ⟨.SUB, [.d8]⟩
  | .jp_C_a16 _ => .named ⟨.JP, [.cond .C, .a16]⟩
  | .call_C_a16 _ => .named ⟨.CALL, [.cond .C, .a16]⟩
  | .sbc_A_d8 _ => .named ⟨.SBC, [.reg8 .A, .d8]⟩
  | .ldh_indA8_A _ => .named ⟨.LDH, [.indA8, .reg8 .A]⟩
  | .and_d8 _ => .named ⟨.AND, [.d8]⟩
  | .add_SP_r8 _ => .named ⟨.ADD, [.reg16 .SP, .r8]⟩
  | .ld_indA16_A _ => .named ⟨.LD, [.indA16, .reg8 .A]⟩
  | .xor_d8 _ => .named ⟨.XOR, [.d8]⟩
  | .ldh_A_indA8 _ => .named ⟨.LDH, [.reg8 .A, .indA8]⟩
  | .or_d8 _ => .named ⟨.OR, [.d8]⟩
  | .ld_HL_SPr8 _ => .named ⟨.LD, [.reg16 .HL, .spPlusR8]⟩
  | .ld_A_indA16 _ => .named ⟨.LD, [.reg8 .A, .indA16]⟩
  | .cp_d8 _ => .named ⟨.CP, [.d8]⟩
  | .rlc_r r => .named ⟨.RLC, [r.token]⟩
  | .rrc_r r => .named ⟨.RRC, [r.token]⟩
  | .rr_r r => .named ⟨.RR, [r.token]⟩
  | .sla_r r => .named ⟨.SLA, [r.token]⟩
  | .sra_r r => .named ⟨.SRA, [r.token]⟩
  | .swap_r r => .named ⟨.SWAP, [r.token]⟩
  | .srl_r r => .named ⟨.SRL, [r.token]⟩
  | .res_b_r b r => .named ⟨.RES, [.bit b, r.token]⟩
  | .set_b_r b r => .named ⟨.SET, [.bit b, r.token]⟩
  | .nop  => .named ⟨.NOP, []⟩
  | .ld_indBC_A  => .named ⟨.LD, [.ind .BC, .reg8 .A]⟩
  | .inc_BC  => .named ⟨.INC, [.reg16 .BC]⟩
  | .inc_B  => .named ⟨.INC, [.reg8 .B]⟩
  | .dec_B  => .named ⟨.DEC, [.reg8 .B]⟩
  | .rlca  => .named ⟨.RLCA, []⟩
  | .add_HL_BC  => .named ⟨.ADD, [.reg16 .HL, .reg16 .BC]⟩
  | .ld_A_indBC  => .named ⟨.LD, [.reg8 .A, .ind .BC]⟩
  | .dec_BC  => .named ⟨.DEC, [.reg16 .BC]⟩
  | .inc_C  => .named ⟨.INC, [.reg8 .C]⟩
  | .dec_C  => .named ⟨.DEC, [.reg8 .C]⟩
  | .rrca  => .named ⟨.RRCA, []⟩
  | .ld_indDE_A  => .named ⟨.LD, [.ind .DE, .reg8 .A]⟩
  | .inc_DE  => .named ⟨.INC, [.reg16 .DE]⟩
  | .inc_D  => .named ⟨.INC, [.reg8 .D]⟩
  | .dec_D  => .named ⟨.DEC, [.reg8 .D]⟩
  | .rla  => .named ⟨.RLA, []⟩
  | .add_HL_DE  => .named ⟨.ADD, [.reg16 .HL, .reg16 .DE]⟩
  | .ld_A_indDE  => .named ⟨.LD, [.reg8 .A, .ind .DE]⟩
  | .dec_DE  => .named ⟨.DEC, [.reg16 .DE]⟩
  | .inc_E  => .named ⟨.INC, [.reg8 .E]⟩
  | .dec_E  => .named ⟨.DEC, [.reg8 .E]⟩
  | .rra  => .named ⟨.RRA, []⟩
  | .ld_indHLinc_A  => .named ⟨.LD, [.indHLinc, .reg8 .A]⟩
  | .inc_HL  => .named ⟨.INC, [.reg16 .HL]⟩
  | .inc_H  => .named ⟨.INC, [.reg8 .H]⟩
  | .dec_H  => .named ⟨.DEC, [.reg8 .H]⟩
  | .daa  => .named ⟨.DAA, []⟩
  | .add_HL_HL  => .named ⟨.ADD, [.reg16 .HL, .reg16 .HL]⟩
  | .ld_A_indHLinc  => .named ⟨.LD, [.reg8 .A, .indHLinc]⟩
  | .dec_HL  => .named ⟨.DEC, [.reg16 .HL]⟩
  | .inc_L  => .named ⟨.INC, [.reg8 .L]⟩
  | .dec_L  => .named ⟨.DEC, [.reg8 .L]⟩
  | .cpl  => .named ⟨.CPL, []⟩
  | .ld_indHLdec_A  => .named ⟨.LD, [.indHLdec, .reg8 .A]⟩
  | .inc_SP  => .named ⟨.INC, [.reg16 .SP]⟩
  | .inc_indHL  => .named ⟨.INC, [.ind .HL]⟩
  | .dec_indHL  => .named ⟨.DEC, [.ind .HL]⟩
  | .scf  => .named ⟨.SCF, []⟩
  | .add_HL_SP  => .named ⟨.ADD, [.reg16 .HL, .reg16 .SP]⟩
  | .ld_A_indHLdec  => .named ⟨.LD, [.reg8 .A, .indHLdec]⟩
  | .dec_SP  => .named ⟨.DEC, [.reg16 .SP]⟩
  | .inc_A  => .named ⟨.INC, [.reg8 .A]⟩
  | .dec_A  => .named ⟨.DEC, [.reg8 .A]⟩
  | .ccf  => .named ⟨.CCF, []⟩
  | .ld_B_B  => .named ⟨.LD, [.reg8 .B, .reg8 .B]⟩
  | .ld_B_C  => .named ⟨.LD, [.reg8 .B, .reg8 .C]⟩
  | .ld_B_D  => .named ⟨.LD, [.reg8 .B, .reg8 .D]⟩
  | .ld_B_E  => .named ⟨.LD, [.reg8 .B, .reg8 .E]⟩
  | .ld_B_H  => .named ⟨.LD, [.reg8 .B, .reg8 .H]⟩
  | .ld_B_L  => .named ⟨.LD, [.reg8 .B, .reg8 .L]⟩
  | .ld_B_indHL  => .named ⟨.LD, [.reg8 .B, .ind .HL]⟩
  | .ld_B_A  => .named ⟨.LD, [.reg8 .B, .reg8 .A]⟩
  | .ld_C_B  => .named ⟨.LD, [.reg8 .C, .reg8 .B]⟩
  | .ld_C_C  => .named ⟨.LD, [.reg8 .C, .reg8 .C]⟩
  | .ld_C_D  => .named ⟨.LD, [.reg8 .C, .reg8 .D]⟩
  | .ld_C_E  => .named ⟨.LD, [.reg8 .C, .reg8 .E]⟩
  | .ld_C_H  => .named ⟨.LD, [.reg8 .C, .reg8 .H]⟩
  | .ld_C_L  => .named ⟨.LD, [.reg8 .C, .reg8 .L]⟩
  | .ld_C_indHL  => .named ⟨.LD, [.reg8 .C, .ind .HL]⟩
  | .ld_C_A  => .named ⟨.LD, [.reg8 .C, .reg8 .A]⟩
  | .ld_D_B  => .named ⟨.LD, [.reg8 .D, .reg8 .B]⟩
  | .ld_D_C  => .named ⟨.LD, [.reg8 .D, .reg8 .C]⟩
  | .ld_D_D  => .named ⟨.LD, [.reg8 .D, .reg8 .D]⟩
  | .ld_D_E  => .named ⟨.LD, [.reg8 .D, .reg8 .E]⟩
  | .ld_D_H  => .named ⟨.LD, [.reg8 .D, .reg8 .H]⟩
  | .ld_D_L  => .named ⟨.LD, [.reg8 .D, .reg8 .L]⟩
  | .ld_D_indHL  => .named ⟨.LD, [.reg8 .D, .ind .HL]⟩
  | .ld_D_A  => .named ⟨.LD, [.reg8 .D, .reg8 .A]⟩
  | .ld_E_B  => .named ⟨.LD, [.reg8 .E, .reg8 .B]⟩
  | .ld_E_C  => .named ⟨.LD, [.reg8 .E, .reg8 .C]⟩
  | .ld_E_D  => .named ⟨.LD, [.reg8 .E, .reg8 .D]⟩
  | .ld_E_E  => .named ⟨.LD, [.reg8 .E, .reg8 .E]⟩
  | .ld_E_H  => .named ⟨.LD, [.reg8 .E, .reg8 .H]⟩
  | .ld_E_L  => .named ⟨.LD, [.reg8 .E, .reg8 .L]⟩
  | .ld_E_indHL  => .named ⟨.LD, [.reg8 .E, .ind .HL]⟩
  | .ld_E_A  => .named ⟨.LD, [.reg8 .E, .reg8 .A]⟩
  | .ld_H_B  => .named ⟨.LD, [.reg8 .H, .reg8 .B]⟩
  | .ld_H_C  => .named ⟨.LD, [.reg8 .H, .reg8 .C]⟩
  | .ld_H_D  => .named ⟨.LD, [.reg8 .H, .reg8 .D]⟩
  | .ld_H_E  => .named ⟨.LD, [.reg8 .H, .reg8 .E]⟩
  | .ld_H_H  => .named ⟨.LD, [.reg8 .H, .reg8 .H]⟩
  | .ld_H_L  => .named ⟨.LD, [.reg8 .H, .reg8 .L]⟩
  | .ld_H_indHL  => .named ⟨.LD, [.reg8 .H, .ind .HL]⟩
  | .ld_H_A  => .named ⟨.LD, [.reg8 .H, .reg8 .A]⟩
  | .ld_L_B  => .named ⟨.LD, [.reg8 .L, .reg8 .B]⟩
  | .ld_L_C  => .named ⟨.LD, [.reg8 .L, .reg8 .C]⟩
  | .ld_L_D  => .named ⟨.LD, [.reg8 .L, .reg8 .D]⟩
  | .ld_L_E  => .named ⟨.LD, [.reg8 .L, .reg8 .E]⟩
  | .ld_L_H  => .named ⟨.LD, [.reg8 .L, .reg8 .H]⟩
  | .ld_L_L  => .named ⟨.LD, [.reg8 .L, .reg8 .L]⟩
  | .ld_L_indHL  => .named ⟨.LD, [.reg8 .L, .ind .HL]⟩
  | .ld_L_A  => .named ⟨.LD, [.reg8 .L, .reg8 .A]⟩
  | .ld_indHL_B  => .named ⟨.LD, [.ind .HL, .reg8 .B]⟩
  | .ld_indHL_C  => .named ⟨.LD, [.ind .HL, .reg8 .C]⟩
  | .ld_indHL_D  => .named ⟨.LD, [.ind .HL, .reg8 .D]⟩
  | .ld_indHL_E  => .named ⟨.LD, [.ind .HL, .reg8 .E]⟩
  | .ld_indHL_H  => .named ⟨.LD, [.ind .HL, .reg8 .H]⟩
  | .ld_indHL_L  => .named ⟨.LD, [.ind .HL, .reg8 .L]⟩
  | .halt  => .named ⟨.HALT, []⟩
  | .ld_indHL_A  => .named ⟨.LD, [.ind .HL, .reg8 .A]⟩
  | .ld_A_B  => .named ⟨.LD, [.reg8 .A, .reg8 .B]⟩
  | .ld_A_C  => .named ⟨.LD, [.reg8 .A, .reg8 .C]⟩
  | .ld_A_D  => .named ⟨.LD, [.reg8 .A, .reg8 .D]⟩
  | .ld_A_E  => .named ⟨.LD, [.reg8 .A, .reg8 .E]⟩
  | .ld_A_H  => .named ⟨.LD, [.reg8 .A, .reg8 .H]⟩
  | .ld_A_L  => .named ⟨.LD, [.reg8 .A, .reg8 .L]⟩
  | .ld_A_indHL  => .named ⟨.LD, [.reg8 .A, .ind .HL]⟩
  | .ld_A_A  => .named ⟨.LD, [.reg8 .A, .reg8 .A]⟩
  | .add_A_B  => .named ⟨.ADD, [.reg8 .A, .reg8 .B]⟩
  | .add_A_C  => .named ⟨.ADD, [.reg8 .A, .reg8 .C]⟩
  | .add_A_D  => .named ⟨.ADD, [.reg8 .A, .reg8 .D]⟩
  | .add_A_E  => .named ⟨.ADD, [.reg8 .A, .reg8 .E]⟩
  | .add_A_H  => .named ⟨.ADD, [.reg8 .A, .reg8 .H]⟩
  | .add_A_L  => .named ⟨.ADD, [.reg8 .A, .reg8 .L]⟩
  | .add_A_indHL  => .named ⟨.ADD, [.reg8 .A, .ind .HL]⟩
  | .add_A_A  => .named ⟨.ADD, [.reg8 .A, .reg8 .A]⟩
  | .adc_A_B  => .named ⟨.ADC, [.reg8 .A, .reg8 .B]⟩
  | .adc_A_C  => .named ⟨.ADC, [.reg8 .A, .reg8 .C]⟩
  | .adc_A_D  => .named ⟨.ADC, [.reg8 .A, .reg8 .D]⟩
  | .adc_A_E  => .named ⟨.ADC, [.reg8 .A, .reg8 .E]⟩
  | .adc_A_H  => .named ⟨.ADC, [.reg8 .A, .reg8 .H]⟩
  | .adc_A_L  => .named ⟨.ADC, [.reg8 .A, .reg8 .L]⟩
  | .adc_A_indHL  => .named ⟨.ADC, [.reg8 .A, .ind .HL]⟩
  | .adc_A_A  => .named ⟨.ADC, [.reg8 .A, .reg8 .A]⟩
  | .sub_B  => .named ⟨.SUB, [.reg8 .B]⟩
  | .sub_C  => .named ⟨.SUB, [.reg8 .C]⟩
  | .sub_D  => .named ⟨.SUB, [.reg8 .D]⟩
  | .sub_E  => .named ⟨.SUB, [.reg8 .E]⟩
  | .sub_H  => .named ⟨.SUB, [.reg8 .H]⟩
  | .sub_L  => .named ⟨.SUB, [.reg8 .L]⟩
  | .sub_indHL  => .named ⟨.SUB, [.ind .HL]⟩
  | .sub_A  => .named ⟨.SUB, [.reg8 .A]⟩
  | .sbc_A_B  => .named ⟨.SBC, [.reg8 .A, .reg8 .B]⟩
  | .sbc_A_C  => .named ⟨.SBC, [.reg8 .A, .reg8 .C]⟩
  | .sbc_A_D  => .named ⟨.SBC, [.reg8 .A, .reg8 .D]⟩
  | .sbc_A_E  => .named ⟨.SBC, [.reg8 .A, .reg8 .E]⟩
  | .sbc_A_H  => .named ⟨.SBC, [.reg8 .A, .reg8 .H]⟩
  | .sbc_A_L  => .named ⟨.SBC, [.reg8 .A, .reg8 .L]⟩
  | .sbc_A_indHL  => .named ⟨.SBC, [.reg8 .A, .ind .HL]⟩
  | .sbc_A_A  => .named ⟨.SBC, [.reg8 .A, .reg8 .A]⟩
  | .and_B  => .named ⟨.AND, [.reg8 .B]⟩
  | .and_C  => .named ⟨.AND, [.reg8 .C]⟩
  | .and_D  => .named ⟨.AND, [.reg8 .D]⟩
  | .and_E  => .named ⟨.AND, [.reg8 .E]⟩
  | .and_H  => .named ⟨.AND, [.reg8 .H]⟩
  | .and_L  => .named ⟨.AND, [.reg8 .L]⟩
  | .and_indHL  => .named ⟨.AND, [.ind .HL]⟩
  | .and_A  => .named ⟨.AND, [.reg8 .A]⟩
  | .xor_B  => .named ⟨.XOR, [.reg8 .B]⟩
  | .xor_C  => .named ⟨.XOR, [.reg8 .C]⟩
  | .xor_D  => .named ⟨.XOR, [.reg8 .D]⟩
  | .xor_E  => .named ⟨.XOR, [.reg8 .E]⟩
  | .xor_H  => .named ⟨.XOR, [.reg8 .H]⟩
  | .xor_L  => .named ⟨.XOR, [.reg8 .L]⟩
  | .xor_indHL  => .named ⟨.XOR, [.ind .HL]⟩
  | .xor_A  => .named ⟨.XOR, [.reg8 .A]⟩
  | .or_B  => .named ⟨.OR, [.reg8 .B]⟩
  | .or_C  => .named ⟨.OR, [.reg8 .C]⟩
  | .or_D  => .named ⟨.OR, [.reg8 .D]⟩
  | .or_E  => .named ⟨.OR, [.reg8 .E]⟩
  | .or_H  => .named ⟨.OR, [.reg8 .H]⟩
  | .or_L  => .named ⟨.OR, [.reg8 .L]⟩
  | .or_indHL  => .named ⟨.OR, [.ind .HL]⟩
  | .or_A  => .named ⟨.OR, [.reg8 .A]⟩
  | .cp_B  => .named ⟨.CP, [.reg8 .B]⟩
  | .cp_C  => .named ⟨.CP, [.reg8 .C]⟩
  | .cp_D  => .named ⟨.CP, [.reg8 .D]⟩
  | .cp_E  => .named ⟨.CP, [.reg8 .E]⟩
  | .cp_H  => .named ⟨.CP, [.reg8 .H]⟩
  | .cp_L  => .named ⟨.CP, [.reg8 .L]⟩
  | .cp_indHL  => .named ⟨.CP, [.ind .HL]⟩
  | .cp_A  => .named ⟨.CP, [.reg8 .A]⟩
  | .ret_NZ  => .named ⟨.RET, [.cond .NZ]⟩
  | .pop_BC  => .named ⟨.POP, [.reg16 .BC]⟩
  | .push_BC  => .named ⟨.PUSH, [.reg16 .BC]⟩
  | .rst_00H  => .named ⟨.RST, [.rst .n0]⟩
  | .ret_Z  => .named ⟨.RET, [.cond .Z]⟩
  | .ret  => .named ⟨.RET, []⟩
  | .prefix_CB => .truncated
  | .rst_08H  => .named ⟨.RST, [.rst .n1]⟩
  | .ret_NC  => .named ⟨.RET, [.cond .NC]⟩
  | .pop_DE  => .named ⟨.POP, [.reg16 .DE]⟩
  | .push_DE  => .named ⟨.PUSH, [.reg16 .DE]⟩
  | .rst_10H  => .named ⟨.RST, [.rst .n2]⟩
  | .ret_C  => .named ⟨.RET, [.cond .C]⟩
  | .reti  => .named ⟨.RETI, []⟩
  | .rst_18H  => .named ⟨.RST, [.rst .n3]⟩
  | .pop_HL  => .named ⟨.POP, [.reg16 .HL]⟩
  | .ld_indC_A  => .named ⟨.LD, [.indC, .reg8 .A]⟩
  | .push_HL  => .named ⟨.PUSH, [.reg16 .HL]⟩
  | .rst_20H  => .named ⟨.RST, [.rst .n4]⟩
  | .jp_indHL  => .named ⟨.JP, [.ind .HL]⟩
  | .rst_28H  => .named ⟨.RST, [.rst .n5]⟩
  | .pop_AF  => .named ⟨.POP, [.AF]⟩
  | .ld_A_indC  => .named ⟨.LD, [.reg8 .A, .indC]⟩
  | .di  => .named ⟨.DI, []⟩
  | .push_AF  => .named ⟨.PUSH, [.AF]⟩
  | .rst_30H  => .named ⟨.RST, [.rst .n6]⟩
  | .ld_SP_HL  => .named ⟨.LD, [.reg16 .SP, .reg16 .HL]⟩
  | .ei  => .named ⟨.EI, []⟩
  | .rst_38H  => .named ⟨.RST, [.rst .n7]⟩
  | .rl_B  => .named ⟨.RL, [.reg8 .B]⟩
  | .rl_C  => .named ⟨.RL, [.reg8 .C]⟩
  | .rl_D  => .named ⟨.RL, [.reg8 .D]⟩
  | .rl_E  => .named ⟨.RL, [.reg8 .E]⟩
  | .rl_H  => .named ⟨.RL, [.reg8 .H]⟩
  | .rl_L  => .named ⟨.RL, [.reg8 .L]⟩
  | .rl_indHL  => .named ⟨.RL, [.ind .HL]⟩
  | .rl_A  => .named ⟨.RL, [.reg8 .A]⟩
  | .bit_0_B  => .named ⟨.BIT, [.bit .n0, .reg8 .B]⟩
  | .bit_0_C  => .named ⟨.BIT, [.bit .n0, .reg8 .C]⟩
  | .bit_0_D  => .named ⟨.BIT, [.bit .n0, .reg8 .D]⟩
  | .bit_0_E  => .named ⟨.BIT, [.bit .n0, .reg8 .E]⟩
  | .bit_0_H  => .named ⟨.BIT, [.bit .n0, .reg8 .H]⟩
  | .bit_0_L  => .named ⟨.BIT, [.bit .n0, .reg8 .L]⟩
  | .bit_0_indHL  => .named ⟨.BIT, [.bit .n0, .ind .HL]⟩
  | .bit_0_A  => .named ⟨.BIT, [.bit .n0, .reg8 .A]⟩
  | .bit_1_B  => .named ⟨.BIT, [.bit .n1, .reg8 .B]⟩
  | .bit_1_C  => .named ⟨.BIT, [.bit .n1, .reg8 .C]⟩
  | .bit_1_D  => .named ⟨.BIT, [.bit .n1, .reg8 .D]⟩
  | .bit_1_E  => .named ⟨.BIT, [.bit .n1, .reg8 .E]⟩
  | .bit_1_H  => .named ⟨.BIT, [.bit .n1, .reg8 .H]⟩
  | .bit_1_L  => .named ⟨.BIT, [.bit .n1, .reg8 .L]⟩
  | .bit_1_indHL  => .named ⟨.BIT, [.bit .n1, .ind .HL]⟩
  | .bit_1_A  => .named ⟨.BIT, [.bit .n1, .reg8 .A]⟩
  | .bit_2_B  => .named ⟨.BIT, [.bit .n2, .reg8 .B]⟩
  | .bit_2_C  => .named ⟨.BIT, [.bit .n2, .reg8 .C]⟩
  | .bit_2_D  => .named ⟨.BIT, [.bit .n2, .reg8 .D]⟩
  | .bit_2_E  => .named ⟨.BIT, [.bit .n2, .reg8 .E]⟩
  | .bit_2_H  => .named ⟨.BIT, [.bit .n2, .reg8 .H]⟩
  | .bit_2_L  => .named ⟨.BIT, [.bit .n2, .reg8 .L]⟩
  | .bit_2_indHL  => .named ⟨.BIT, [.bit .n2, .ind .HL]⟩
  | .bit_2_A  => .named ⟨.BIT, [.bit .n2, .reg8 .A]⟩
  | .bit_3_B  => .named ⟨.BIT, [.bit .n3, .reg8 .B]⟩
  | .bit_3_C  => .named ⟨.BIT, [.bit .n3, .reg8 .C]⟩
  | .bit_3_D  => .named ⟨.BIT, [.bit .n3, .reg8 .D]⟩
  | .bit_3_E  => .named ⟨.BIT, [.bit .n3, .reg8 .E]⟩
  | .bit_3_H  => .named ⟨.BIT, [.bit .n3, .reg8 .H]⟩
  | .bit_3_L  => .named ⟨.BIT, [.bit .n3, .reg8 .L]⟩
  | .bit_3_indHL  => .named ⟨.BIT, [.bit .n3, .ind .HL]⟩
  | .bit_3_A  => .named ⟨.BIT, [.bit .n3, .reg8 .A]⟩
  | .bit_4_B  => .named ⟨.BIT, [.bit .n4, .reg8 .B]⟩
  | .bit_4_C  => .named ⟨.BIT, [.bit .n4, .reg8 .C]⟩
  | .bit_4_D  => .named ⟨.BIT, [.bit .n4, .reg8 .D]⟩
  | .bit_4_E  => .named ⟨.BIT, [.bit .n4, .reg8 .E]⟩
  | .bit_4_H  => .named ⟨.BIT, [.bit .n4, .reg8 .H]⟩
  | .bit_4_L  => .named ⟨.BIT, [.bit .n4, .reg8 .L]⟩
  | .bit_4_indHL  => .named ⟨.BIT, [.bit .n4, .ind .HL]⟩
  | .bit_4_A  => .named ⟨.BIT, [.bit .n4, .reg8 .A]⟩
  | .bit_5_B  => .named ⟨.BIT, [.bit .n5, .reg8 .B]⟩
  | .bit_5_C  => .named ⟨.BIT, [.bit .n5, .reg8 .C]⟩
  | .bit_5_D  => .named ⟨.BIT, [.bit .n5, .reg8 .D]⟩
  | .bit_5_E  => .named ⟨.BIT, [.bit .n5, .reg8 .E]⟩
  | .bit_5_H  => .named ⟨.BIT, [.bit .n5, .reg8 .H]⟩
  | .bit_5_L  => .named ⟨.BIT, [.bit .n5, .reg8 .L]⟩
  | .bit_5_indHL  => .named ⟨.BIT, [.bit .n5, .ind .HL]⟩
  | .bit_5_A  => .named ⟨.BIT, [.bit .n5, .reg8 .A]⟩
  | .bit_6_B  => .named ⟨.BIT, [.bit .n6, .reg8 .B]⟩
  | .bit_6_C  => .named ⟨.BIT, [.bit .n6, .reg8 .C]⟩
  | .bit_6_D  => .named ⟨.BIT, [.bit .n6, .reg8 .D]⟩
  | .bit_6_E  => .named ⟨.BIT, [.bit .n6, .reg8 .E]⟩
  | .bit_6_H  => .named ⟨.BIT, [.bit .n6, .reg8 .H]⟩
  | .bit_6_L  => .named ⟨.BIT, [.bit .n6, .reg8 .L]⟩
  | .bit_6_indHL  => .named ⟨.BIT, [.bit .n6, .ind .HL]⟩
  | .bit_6_A  => .named ⟨.BIT, [.bit .n6, .reg8 .A]⟩
  | .bit_7_B  => .named ⟨.BIT, [.bit .n7, .reg8 .B]⟩
  | .bit_7_C  => .named ⟨.BIT, [.bit .n7, .reg8 .C]⟩
  | .bit_7_D  => .named ⟨.BIT, [.bit .n7, .reg8 .D]⟩
  | .bit_7_E  => .named ⟨.BIT, [.bit .n7, .reg8 .E]⟩
  | .bit_7_H  => .named ⟨.BIT, [.bit .n7, .reg8 .H]⟩
  | .bit_7_L  => .named ⟨.BIT, [.bit .n7, .reg8 .L]⟩
  | .bit_7_indHL  => .named ⟨.BIT, [.bit .n7, .ind .HL]⟩
  | .bit_7_A  => .named ⟨.BIT, [.bit .n7, .reg8 .A]⟩

end Sys2Proof
end

