-- ==== Sys2Proof/Config.lean ====
section
/-! DEFINITION. The reference values of the CORE's parameters (spec 00_scope R11): the opcode table of spec/opcode_table.json
(R67), the byte 0xCB (R73) and the five interrupt vectors (R166). They are the values `State.reset` starts from; a state may hold
any others, since the parameters are data in the state (assumption log 1). -/
namespace Sys2Proof.Config

/-- Flag-effect code `----`. -/
def codeNone : FlagCode := ⟨.keep, .keep, .keep, .keep⟩

/-- Flag-effect code `-001`. -/
def codek001 : FlagCode := ⟨.keep, .force0, .force0, .force1⟩

/-- Flag-effect code `-00C`. -/
def codek00C : FlagCode := ⟨.keep, .force0, .force0, .computed⟩

/-- Flag-effect code `-0HC`. -/
def codek0HC : FlagCode := ⟨.keep, .force0, .computed, .computed⟩

/-- Flag-effect code `-11-`. -/
def codek11k : FlagCode := ⟨.keep, .force1, .force1, .keep⟩

/-- Flag-effect code `000C`. -/
def code000C : FlagCode := ⟨.force0, .force0, .force0, .computed⟩

/-- Flag-effect code `00HC`. -/
def code00HC : FlagCode := ⟨.force0, .force0, .computed, .computed⟩

/-- Flag-effect code `Z-0C`. -/
def codeZk0C : FlagCode := ⟨.computed, .keep, .force0, .computed⟩

/-- Flag-effect code `Z000`. -/
def codeZ000 : FlagCode := ⟨.computed, .force0, .force0, .force0⟩

/-- Flag-effect code `Z00C`. -/
def codeZ00C : FlagCode := ⟨.computed, .force0, .force0, .computed⟩

/-- Flag-effect code `Z01-`. -/
def codeZ01k : FlagCode := ⟨.computed, .force0, .force1, .keep⟩

/-- Flag-effect code `Z010`. -/
def codeZ010 : FlagCode := ⟨.computed, .force0, .force1, .force0⟩

/-- Flag-effect code `Z0H-`. -/
def codeZ0Hk : FlagCode := ⟨.computed, .force0, .computed, .keep⟩

/-- Flag-effect code `Z0HC`. -/
def codeZ0HC : FlagCode := ⟨.computed, .force0, .computed, .computed⟩

/-- Flag-effect code `Z1H-`. -/
def codeZ1Hk : FlagCode := ⟨.computed, .force1, .computed, .keep⟩

/-- Flag-effect code `Z1HC`. -/
def codeZ1HC : FlagCode := ⟨.computed, .force1, .computed, .computed⟩

/-- Flag-effect code `ZNHC`. -/
def codeZNHC : FlagCode := ⟨.computed, .computed, .computed, .computed⟩

/-- One row of the reference table. -/
def row (m : Mnemonic) (ts : List Token) (len : Nat) (flags : FlagCode) : Option Descriptor :=
  some ⟨⟨m, ts⟩, ⟨len, flags⟩⟩

/-- The values of an `r` field in the order of their codes 0 to 7 (R69). -/
def locs : List Loc8 :=
  [.reg .B, .reg .C, .reg .D, .reg .E, .reg .H, .reg .L, .indHL, .reg .A]

/-- The values of a `b` field in order. -/
def bits : List Oct := [.n0, .n1, .n2, .n3, .n4, .n5, .n6, .n7]

/-- Primary keys 0x00 to 0x0F. -/
def primary0 : List (Option Descriptor) := [
  row .NOP [] 1 codeNone,
  row .LD [.reg16 .BC, .d16] 3 codeNone,
  row .LD [.ind .BC, .reg8 .A] 1 codeNone,
  row .INC [.reg16 .BC] 1 codeNone,
  row .INC [.reg8 .B] 1 codeZ0Hk,
  row .DEC [.reg8 .B] 1 codeZ1Hk,
  row .LD [.reg8 .B, .d8] 2 codeNone,
  row .RLCA [] 1 code000C,
  row .LD [.indA16, .reg16 .SP] 3 codeNone,
  row .ADD [.reg16 .HL, .reg16 .BC] 1 codek0HC,
  row .LD [.reg8 .A, .ind .BC] 1 codeNone,
  row .DEC [.reg16 .BC] 1 codeNone,
  row .INC [.reg8 .C] 1 codeZ0Hk,
  row .DEC [.reg8 .C] 1 codeZ1Hk,
  row .LD [.reg8 .C, .d8] 2 codeNone,
  row .RRCA [] 1 code000C]

/-- Primary keys 0x10 to 0x1F. -/
def primary1 : List (Option Descriptor) := [
  row .STOP [.bit .n0] 2 codeNone,
  row .LD [.reg16 .DE, .d16] 3 codeNone,
  row .LD [.ind .DE, .reg8 .A] 1 codeNone,
  row .INC [.reg16 .DE] 1 codeNone,
  row .INC [.reg8 .D] 1 codeZ0Hk,
  row .DEC [.reg8 .D] 1 codeZ1Hk,
  row .LD [.reg8 .D, .d8] 2 codeNone,
  row .RLA [] 1 code000C,
  row .JR [.r8] 2 codeNone,
  row .ADD [.reg16 .HL, .reg16 .DE] 1 codek0HC,
  row .LD [.reg8 .A, .ind .DE] 1 codeNone,
  row .DEC [.reg16 .DE] 1 codeNone,
  row .INC [.reg8 .E] 1 codeZ0Hk,
  row .DEC [.reg8 .E] 1 codeZ1Hk,
  row .LD [.reg8 .E, .d8] 2 codeNone,
  row .RRA [] 1 code000C]

/-- Primary keys 0x20 to 0x2F. -/
def primary2 : List (Option Descriptor) := [
  row .JR [.cond .NZ, .r8] 2 codeNone,
  row .LD [.reg16 .HL, .d16] 3 codeNone,
  row .LD [.indHLinc, .reg8 .A] 1 codeNone,
  row .INC [.reg16 .HL] 1 codeNone,
  row .INC [.reg8 .H] 1 codeZ0Hk,
  row .DEC [.reg8 .H] 1 codeZ1Hk,
  row .LD [.reg8 .H, .d8] 2 codeNone,
  row .DAA [] 1 codeZk0C,
  row .JR [.cond .Z, .r8] 2 codeNone,
  row .ADD [.reg16 .HL, .reg16 .HL] 1 codek0HC,
  row .LD [.reg8 .A, .indHLinc] 1 codeNone,
  row .DEC [.reg16 .HL] 1 codeNone,
  row .INC [.reg8 .L] 1 codeZ0Hk,
  row .DEC [.reg8 .L] 1 codeZ1Hk,
  row .LD [.reg8 .L, .d8] 2 codeNone,
  row .CPL [] 1 codek11k]

/-- Primary keys 0x30 to 0x3F. -/
def primary3 : List (Option Descriptor) := [
  row .JR [.cond .NC, .r8] 2 codeNone,
  row .LD [.reg16 .SP, .d16] 3 codeNone,
  row .LD [.indHLdec, .reg8 .A] 1 codeNone,
  row .INC [.reg16 .SP] 1 codeNone,
  row .INC [.ind .HL] 1 codeZ0Hk,
  row .DEC [.ind .HL] 1 codeZ1Hk,
  row .LD [.ind .HL, .d8] 2 codeNone,
  row .SCF [] 1 codek001,
  row .JR [.cond .C, .r8] 2 codeNone,
  row .ADD [.reg16 .HL, .reg16 .SP] 1 codek0HC,
  row .LD [.reg8 .A, .indHLdec] 1 codeNone,
  row .DEC [.reg16 .SP] 1 codeNone,
  row .INC [.reg8 .A] 1 codeZ0Hk,
  row .DEC [.reg8 .A] 1 codeZ1Hk,
  row .LD [.reg8 .A, .d8] 2 codeNone,
  row .CCF [] 1 codek00C]

/-- Primary keys 0x40 to 0x4F. -/
def primary4 : List (Option Descriptor) := [
  row .LD [.reg8 .B, .reg8 .B] 1 codeNone,
  row .LD [.reg8 .B, .reg8 .C] 1 codeNone,
  row .LD [.reg8 .B, .reg8 .D] 1 codeNone,
  row .LD [.reg8 .B, .reg8 .E] 1 codeNone,
  row .LD [.reg8 .B, .reg8 .H] 1 codeNone,
  row .LD [.reg8 .B, .reg8 .L] 1 codeNone,
  row .LD [.reg8 .B, .ind .HL] 1 codeNone,
  row .LD [.reg8 .B, .reg8 .A] 1 codeNone,
  row .LD [.reg8 .C, .reg8 .B] 1 codeNone,
  row .LD [.reg8 .C, .reg8 .C] 1 codeNone,
  row .LD [.reg8 .C, .reg8 .D] 1 codeNone,
  row .LD [.reg8 .C, .reg8 .E] 1 codeNone,
  row .LD [.reg8 .C, .reg8 .H] 1 codeNone,
  row .LD [.reg8 .C, .reg8 .L] 1 codeNone,
  row .LD [.reg8 .C, .ind .HL] 1 codeNone,
  row .LD [.reg8 .C, .reg8 .A] 1 codeNone]

/-- Primary keys 0x50 to 0x5F. -/
def primary5 : List (Option Descriptor) := [
  row .LD [.reg8 .D, .reg8 .B] 1 codeNone,
  row .LD [.reg8 .D, .reg8 .C] 1 codeNone,
  row .LD [.reg8 .D, .reg8 .D] 1 codeNone,
  row .LD [.reg8 .D, .reg8 .E] 1 codeNone,
  row .LD [.reg8 .D, .reg8 .H] 1 codeNone,
  row .LD [.reg8 .D, .reg8 .L] 1 codeNone,
  row .LD [.reg8 .D, .ind .HL] 1 codeNone,
  row .LD [.reg8 .D, .reg8 .A] 1 codeNone,
  row .LD [.reg8 .E, .reg8 .B] 1 codeNone,
  row .LD [.reg8 .E, .reg8 .C] 1 codeNone,
  row .LD [.reg8 .E, .reg8 .D] 1 codeNone,
  row .LD [.reg8 .E, .reg8 .E] 1 codeNone,
  row .LD [.reg8 .E, .reg8 .H] 1 codeNone,
  row .LD [.reg8 .E, .reg8 .L] 1 codeNone,
  row .LD [.reg8 .E, .ind .HL] 1 codeNone,
  row .LD [.reg8 .E, .reg8 .A] 1 codeNone]

/-- Primary keys 0x60 to 0x6F. -/
def primary6 : List (Option Descriptor) := [
  row .LD [.reg8 .H, .reg8 .B] 1 codeNone,
  row .LD [.reg8 .H, .reg8 .C] 1 codeNone,
  row .LD [.reg8 .H, .reg8 .D] 1 codeNone,
  row .LD [.reg8 .H, .reg8 .E] 1 codeNone,
  row .LD [.reg8 .H, .reg8 .H] 1 codeNone,
  row .LD [.reg8 .H, .reg8 .L] 1 codeNone,
  row .LD [.reg8 .H, .ind .HL] 1 codeNone,
  row .LD [.reg8 .H, .reg8 .A] 1 codeNone,
  row .LD [.reg8 .L, .reg8 .B] 1 codeNone,
  row .LD [.reg8 .L, .reg8 .C] 1 codeNone,
  row .LD [.reg8 .L, .reg8 .D] 1 codeNone,
  row .LD [.reg8 .L, .reg8 .E] 1 codeNone,
  row .LD [.reg8 .L, .reg8 .H] 1 codeNone,
  row .LD [.reg8 .L, .reg8 .L] 1 codeNone,
  row .LD [.reg8 .L, .ind .HL] 1 codeNone,
  row .LD [.reg8 .L, .reg8 .A] 1 codeNone]

/-- Primary keys 0x70 to 0x7F. -/
def primary7 : List (Option Descriptor) := [
  row .LD [.ind .HL, .reg8 .B] 1 codeNone,
  row .LD [.ind .HL, .reg8 .C] 1 codeNone,
  row .LD [.ind .HL, .reg8 .D] 1 codeNone,
  row .LD [.ind .HL, .reg8 .E] 1 codeNone,
  row .LD [.ind .HL, .reg8 .H] 1 codeNone,
  row .LD [.ind .HL, .reg8 .L] 1 codeNone,
  row .HALT [] 1 codeNone,
  row .LD [.ind .HL, .reg8 .A] 1 codeNone,
  row .LD [.reg8 .A, .reg8 .B] 1 codeNone,
  row .LD [.reg8 .A, .reg8 .C] 1 codeNone,
  row .LD [.reg8 .A, .reg8 .D] 1 codeNone,
  row .LD [.reg8 .A, .reg8 .E] 1 codeNone,
  row .LD [.reg8 .A, .reg8 .H] 1 codeNone,
  row .LD [.reg8 .A, .reg8 .L] 1 codeNone,
  row .LD [.reg8 .A, .ind .HL] 1 codeNone,
  row .LD [.reg8 .A, .reg8 .A] 1 codeNone]

/-- Primary keys 0x80 to 0x8F. -/
def primary8 : List (Option Descriptor) := [
  row .ADD [.reg8 .A, .reg8 .B] 1 codeZ0HC,
  row .ADD [.reg8 .A, .reg8 .C] 1 codeZ0HC,
  row .ADD [.reg8 .A, .reg8 .D] 1 codeZ0HC,
  row .ADD [.reg8 .A, .reg8 .E] 1 codeZ0HC,
  row .ADD [.reg8 .A, .reg8 .H] 1 codeZ0HC,
  row .ADD [.reg8 .A, .reg8 .L] 1 codeZ0HC,
  row .ADD [.reg8 .A, .ind .HL] 1 codeZ0HC,
  row .ADD [.reg8 .A, .reg8 .A] 1 codeZ0HC,
  row .ADC [.reg8 .A, .reg8 .B] 1 codeZ0HC,
  row .ADC [.reg8 .A, .reg8 .C] 1 codeZ0HC,
  row .ADC [.reg8 .A, .reg8 .D] 1 codeZ0HC,
  row .ADC [.reg8 .A, .reg8 .E] 1 codeZ0HC,
  row .ADC [.reg8 .A, .reg8 .H] 1 codeZ0HC,
  row .ADC [.reg8 .A, .reg8 .L] 1 codeZ0HC,
  row .ADC [.reg8 .A, .ind .HL] 1 codeZ0HC,
  row .ADC [.reg8 .A, .reg8 .A] 1 codeZ0HC]

/-- Primary keys 0x90 to 0x9F. -/
def primary9 : List (Option Descriptor) := [
  row .SUB [.reg8 .B] 1 codeZ1HC,
  row .SUB [.reg8 .C] 1 codeZ1HC,
  row .SUB [.reg8 .D] 1 codeZ1HC,
  row .SUB [.reg8 .E] 1 codeZ1HC,
  row .SUB [.reg8 .H] 1 codeZ1HC,
  row .SUB [.reg8 .L] 1 codeZ1HC,
  row .SUB [.ind .HL] 1 codeZ1HC,
  row .SUB [.reg8 .A] 1 codeZ1HC,
  row .SBC [.reg8 .A, .reg8 .B] 1 codeZ1HC,
  row .SBC [.reg8 .A, .reg8 .C] 1 codeZ1HC,
  row .SBC [.reg8 .A, .reg8 .D] 1 codeZ1HC,
  row .SBC [.reg8 .A, .reg8 .E] 1 codeZ1HC,
  row .SBC [.reg8 .A, .reg8 .H] 1 codeZ1HC,
  row .SBC [.reg8 .A, .reg8 .L] 1 codeZ1HC,
  row .SBC [.reg8 .A, .ind .HL] 1 codeZ1HC,
  row .SBC [.reg8 .A, .reg8 .A] 1 codeZ1HC]

/-- Primary keys 0xA0 to 0xAF. -/
def primaryA : List (Option Descriptor) := [
  row .AND [.reg8 .B] 1 codeZ010,
  row .AND [.reg8 .C] 1 codeZ010,
  row .AND [.reg8 .D] 1 codeZ010,
  row .AND [.reg8 .E] 1 codeZ010,
  row .AND [.reg8 .H] 1 codeZ010,
  row .AND [.reg8 .L] 1 codeZ010,
  row .AND [.ind .HL] 1 codeZ010,
  row .AND [.reg8 .A] 1 codeZ010,
  row .XOR [.reg8 .B] 1 codeZ000,
  row .XOR [.reg8 .C] 1 codeZ000,
  row .XOR [.reg8 .D] 1 codeZ000,
  row .XOR [.reg8 .E] 1 codeZ000,
  row .XOR [.reg8 .H] 1 codeZ000,
  row .XOR [.reg8 .L] 1 codeZ000,
  row .XOR [.ind .HL] 1 codeZ000,
  row .XOR [.reg8 .A] 1 codeZ000]

/-- Primary keys 0xB0 to 0xBF. -/
def primaryB : List (Option Descriptor) := [
  row .OR [.reg8 .B] 1 codeZ000,
  row .OR [.reg8 .C] 1 codeZ000,
  row .OR [.reg8 .D] 1 codeZ000,
  row .OR [.reg8 .E] 1 codeZ000,
  row .OR [.reg8 .H] 1 codeZ000,
  row .OR [.reg8 .L] 1 codeZ000,
  row .OR [.ind .HL] 1 codeZ000,
  row .OR [.reg8 .A] 1 codeZ000,
  row .CP [.reg8 .B] 1 codeZ1HC,
  row .CP [.reg8 .C] 1 codeZ1HC,
  row .CP [.reg8 .D] 1 codeZ1HC,
  row .CP [.reg8 .E] 1 codeZ1HC,
  row .CP [.reg8 .H] 1 codeZ1HC,
  row .CP [.reg8 .L] 1 codeZ1HC,
  row .CP [.ind .HL] 1 codeZ1HC,
  row .CP [.reg8 .A] 1 codeZ1HC]

/-- Primary keys 0xC0 to 0xCF. -/
def primaryC : List (Option Descriptor) := [
  row .RET [.cond .NZ] 1 codeNone,
  row .POP [.reg16 .BC] 1 codeNone,
  row .JP [.cond .NZ, .a16] 3 codeNone,
  row .JP [.a16] 3 codeNone,
  row .CALL [.cond .NZ, .a16] 3 codeNone,
  row .PUSH [.reg16 .BC] 1 codeNone,
  row .ADD [.reg8 .A, .d8] 2 codeZ0HC,
  row .RST [.rst .n0] 1 codeNone,
  row .RET [.cond .Z] 1 codeNone,
  row .RET [] 1 codeNone,
  row .JP [.cond .Z, .a16] 3 codeNone,
  row .PREFIX [.CB] 1 codeNone,
  row .CALL [.cond .Z, .a16] 3 codeNone,
  row .CALL [.a16] 3 codeNone,
  row .ADC [.reg8 .A, .d8] 2 codeZ0HC,
  row .RST [.rst .n1] 1 codeNone]

/-- Primary keys 0xD0 to 0xDF. -/
def primaryD : List (Option Descriptor) := [
  row .RET [.cond .NC] 1 codeNone,
  row .POP [.reg16 .DE] 1 codeNone,
  row .JP [.cond .NC, .a16] 3 codeNone,
  none,
  row .CALL [.cond .NC, .a16] 3 codeNone,
  row .PUSH [.reg16 .DE] 1 codeNone,
  row .SUB [.d8] 2 codeZ1HC,
  row .RST [.rst .n2] 1 codeNone,
  row .RET [.cond .C] 1 codeNone,
  row .RETI [] 1 codeNone,
  row .JP [.cond .C, .a16] 3 codeNone,
  none,
  row .CALL [.cond .C, .a16] 3 codeNone,
  none,
  row .SBC [.reg8 .A, .d8] 2 codeZ1HC,
  row .RST [.rst .n3] 1 codeNone]

/-- Primary keys 0xE0 to 0xEF. -/
def primaryE : List (Option Descriptor) := [
  row .LDH [.indA8, .reg8 .A] 2 codeNone,
  row .POP [.reg16 .HL] 1 codeNone,
  row .LD [.indC, .reg8 .A] 1 codeNone,
  none,
  none,
  row .PUSH [.reg16 .HL] 1 codeNone,
  row .AND [.d8] 2 codeZ010,
  row .RST [.rst .n4] 1 codeNone,
  row .ADD [.reg16 .SP, .r8] 2 code00HC,
  row .JP [.ind .HL] 1 codeNone,
  row .LD [.indA16, .reg8 .A] 3 codeNone,
  none,
  none,
  none,
  row .XOR [.d8] 2 codeZ000,
  row .RST [.rst .n5] 1 codeNone]

/-- Primary keys 0xF0 to 0xFF. -/
def primaryF : List (Option Descriptor) := [
  row .LDH [.reg8 .A, .indA8] 2 codeNone,
  row .POP [.AF] 1 codeZNHC,
  row .LD [.reg8 .A, .indC] 1 codeNone,
  row .DI [] 1 codeNone,
  none,
  row .PUSH [.AF] 1 codeNone,
  row .OR [.d8] 2 codeZ000,
  row .RST [.rst .n6] 1 codeNone,
  row .LD [.reg16 .HL, .spPlusR8] 2 code00HC,
  row .LD [.reg16 .SP, .reg16 .HL] 1 codeNone,
  row .LD [.reg8 .A, .indA16] 3 codeNone,
  row .EI [] 1 codeNone,
  none,
  none,
  row .CP [.d8] 2 codeZ1HC,
  row .RST [.rst .n7] 1 codeNone]

/-- One entry per value of the `r` field. -/
def regRows (m : Mnemonic) (flags : FlagCode) : List (Option Descriptor) :=
  locs.map fun x => row m [x.token] 2 flags

/-- One entry per value of the `b` and `r` fields. -/
def bitRows (m : Mnemonic) (flags : FlagCode) : List (Option Descriptor) :=
  bits.flatMap fun b => locs.map fun x => row m [.bit b, x.token] 2 flags

/-- The reference opcode table (R67). -/
def table : OpcodeTable where
  primary :=
    primary0 ++ primary1 ++ primary2 ++ primary3 ++ primary4 ++ primary5 ++ primary6 ++ primary7 ++
    primary8 ++ primary9 ++ primaryA ++ primaryB ++ primaryC ++ primaryD ++ primaryE ++ primaryF
  secondary :=
    regRows .RLC codeZ00C ++
    regRows .RRC codeZ00C ++
    regRows .RL codeZ00C ++
    regRows .RR codeZ00C ++
    regRows .SLA codeZ00C ++
    regRows .SRA codeZ00C ++
    regRows .SWAP codeZ000 ++
    regRows .SRL codeZ00C ++
    bitRows .BIT codeZ01k ++
    bitRows .RES codeNone ++
    bitRows .SET codeNone

/-- The reference decoding parameters. -/
def reference : Params := ⟨table, 0xCB⟩

/-- The reference value of IRQ_VECTORS, highest priority first (R166): V-Blank, LCD status, Timer, Serial, Joypad. -/
def irqVectors : List Word := [0x0040, 0x0048, 0x0050, 0x0058, 0x0060]

end Sys2Proof.Config
end

