-- ==== Sys2Proof/WellFormed.lean ====
section
/-! DEFINITION. When a table entry, a table and an instruction are well formed (spec 10_state R36, 30_encoding R68): the length is
1, 2 or 3, and a computed flag symbol stands only where the descriptor's family defines that flag's function. Which descriptors
are admitted at all is R76. -/
namespace Sys2Proof

/-- The flags a family computes (the `Computed_f` of R32). No family computes N (R85). -/
structure Computes where
  z : Bool
  h : Bool
  c : Bool
  deriving DecidableEq, Repr

/-- A source of the 8-bit arithmetic and logic forms: a register, (HL) or d8. -/
def Token.isSource8 : Token → Bool
  | .reg8 _ | .ind .HL | .d8 => true
  | _ => false

/-- A register or (HL). -/
def Token.isLoc8 : Token → Bool
  | .reg8 _ | .ind .HL => true
  | _ => false

/-- `c` if the form is admitted, nothing otherwise. -/
def Computes.when (admitted : Bool) (z h c : Bool) : Option Computes :=
  if admitted then some ⟨z, h, c⟩ else none

/-- The operand pairs of LD that R76 admits. -/
def ldAdmitted : Token → Token → Bool
  | .reg8 _, .reg8 _ => true
  | .reg8 _, .ind .HL => true
  | .reg8 _, .d8 => true
  | .ind .HL, .reg8 _ => true
  | .ind .HL, .d8 => true
  | .reg16 _, .d16 => true
  | .reg16 .SP, .reg16 .HL => true
  | .ind .BC, .reg8 .A => true
  | .ind .DE, .reg8 .A => true
  | .reg8 .A, .ind .BC => true
  | .reg8 .A, .ind .DE => true
  | .indHLinc, .reg8 .A => true
  | .indHLdec, .reg8 .A => true
  | .reg8 .A, .indHLinc => true
  | .reg8 .A, .indHLdec => true
  | .indA16, .reg8 .A => true
  | .reg8 .A, .indA16 => true
  | .indA16, .reg16 .SP => true
  | .indC, .reg8 .A => true
  | .reg8 .A, .indC => true
  | _, _ => false

/-- The flags an admitted form computes, `none` for a form outside the admitted subset (R76). The families that give no numeric
result compute none (R33). -/
def FormName.computes (n : FormName) : Option Computes :=
  match n.mnemonic, n.operands with
  | .ADD, [.reg8 .A, x] => Computes.when x.isSource8 true true true
  | .ADD, [.reg16 .HL, .reg16 _] => some ⟨true, true, true⟩
  | .SUB, [x] => Computes.when x.isSource8 true true true
  | .CP, [x] => Computes.when x.isSource8 true true true
  | .INC, [.reg16 _] => some ⟨true, false, false⟩
  | .INC, [x] => Computes.when x.isLoc8 true true false
  | .DEC, [.reg16 _] => some ⟨true, false, false⟩
  | .DEC, [x] => Computes.when x.isLoc8 true true false
  | .AND, [x] => Computes.when x.isSource8 true false false
  | .XOR, [x] => Computes.when x.isSource8 true false false
  | .OR, [x] => Computes.when x.isSource8 true false false
  | .BIT, [.bit _, x] => Computes.when x.isLoc8 true false false
  | .RL, [x] => Computes.when x.isLoc8 true false true
  | .RLA, [] => some ⟨true, false, true⟩
  | .LD, [d, x] => Computes.when (ldAdmitted d x) false false false
  | .LDH, [.indA8, .reg8 .A] => some ⟨false, false, false⟩
  | .LDH, [.reg8 .A, .indA8] => some ⟨false, false, false⟩
  | .JR, [.r8] => some ⟨false, false, false⟩
  | .JR, [.cond _, .r8] => some ⟨false, false, false⟩
  | .CALL, [.a16] => some ⟨false, false, false⟩
  | .CALL, [.cond _, .a16] => some ⟨false, false, false⟩
  | .RET, [] => some ⟨false, false, false⟩
  | .RET, [.cond _] => some ⟨false, false, false⟩
  | .PUSH, [.reg16 p] => Computes.when (p != .SP) false false false
  | .POP, [.reg16 p] => Computes.when (p != .SP) false false false
  | .DI, [] => some ⟨false, false, false⟩
  | .NOP, [] => some ⟨false, false, false⟩
  | _, _ => none

/-- The form is one of R76's. -/
def FormName.admitted (n : FormName) : Bool := n.computes.isSome

/-- R36: every computed symbol stands where the family computes. -/
def FlagCode.fits (code : FlagCode) (m : Computes) : Bool :=
  (code.z != .computed || m.z) && code.n != .computed && (code.h != .computed || m.h) && (code.c != .computed || m.c)

/-- R36 and R68 for one table entry. A form outside the admitted subset has no family, so R36 asks nothing of its code
(assumption log 16). -/
def Descriptor.wellFormed (d : Descriptor) : Bool :=
  1 ≤ d.entry.len && d.entry.len ≤ 3 &&
    match d.name.computes with
    | some m => d.entry.flags.fits m
    | none => true

/-- A table the CORE accepts (R36, R65): at most 256 keys a section, every entry well formed. -/
def OpcodeTable.wellFormed (t : OpcodeTable) : Bool :=
  t.primary.length ≤ 256 && t.secondary.length ≤ 256 &&
    t.primary.all (fun d => d.all Descriptor.wellFormed) && t.secondary.all (fun d => d.all Descriptor.wellFormed)

/-- A table entry's length and code suit the instruction (R36, R68). An absent key and a cut prefix have no entry. -/
def Instr.suits (i : Instr) (e : Entry) : Bool :=
  match i.view with
  | .named name => (Descriptor.mk name e).wellFormed
  | .absent _ => true
  | .truncated => true

/-- A well-formed instruction: every named form is one whatever its operands; an absent key has one byte, or two under the prefix
(R74). -/
def Instr.wellFormed (i : Instr) : Bool :=
  match i.view with
  | .named _ => true
  | .absent bytes => bytes.length == 1 || bytes.length == 2
  | .truncated => true

end Sys2Proof
end

