-- ==== Sys2Proof/Decode.lean ====
section
/-! DEFINITION. Decoding (spec 30_encoding R65 to R77): byte order, the names of table entries as text, the mapping from names to
instructions, table lookup, `decode`, total on any bytes, the encoder, and for every constructor a word written out from the spec's
encoding that decodes to it. -/
namespace Sys2Proof

/-! ### Bytes and 16-bit values -/

/-- `hi:lo` (R14). -/
def ofBytes (hi lo : Byte) : Word := (hi.setWidth 16 <<< 8) ||| lo.setWidth 16

/-- `v[15:8]` (R12). -/
def hiByte (v : Word) : Byte := (v >>> 8).setWidth 8

/-- `v[7:0]` (R12). -/
def loByte (v : Word) : Byte := v.setWidth 8

/-- The bytes of a 16-bit immediate, low byte first (R49, R70). -/
def imm16Bytes (v : Word) : List Byte := [loByte v, hiByte v]

/-! ### From names to instructions (R77): each (mnemonic, operand tokens) selects one constructor -/

/-- How an instruction takes its operand bytes: none, imm8, or imm16 (R68, R70). -/
inductive Builder where
  | plain (i : Instr)
  | imm8 (f : Byte → Instr)
  | imm16 (f : Word → Instr)

/-- Fetches the immediate from the bytes after the opcode (R70), little-endian; nothing if they are too few. -/
def Builder.build : Builder → List Byte → Option Instr
  | .plain i, _ => some i
  | .imm8 f, n :: _ => some (f n)
  | .imm16 f, lo :: hi :: _ => some (f (ofBytes hi lo))
  | .imm8 _, [] => none
  | .imm16 _, _ => none

/-- The data registers in the order of their field codes (R69). -/
def regs8 : List Reg8 := [.B, .C, .D, .E, .H, .L, .A]

/-- The `rr` operands in order (R69). -/
def regs16 : List Reg16 := [.BC, .DE, .HL, .SP]

/-- The condition codes in order (R69). -/
def conds : List Cond := [.NZ, .Z, .NC, .C]

/-- The pairs of PUSH and POP in order (R69). -/
def pairs : List Pair := [.BC, .DE, .HL]

/-- The operand patterns of one mnemonic with their builders. -/
abbrev Forms := List (List Token × Builder)

/-- One form per register or (HL), after the leading tokens. -/
def locForms (lead : List Token) (f : Loc8 → Instr) : Forms :=
  Config.locs.map fun x => (lead ++ [x.token], .plain (f x))

/-- One form per bit index and register or (HL). -/
def bitForms (f : Oct → Loc8 → Instr) : Forms :=
  Config.bits.flatMap fun b => locForms [.bit b] (f b)

/-- LD r,r2 (R120). -/
def ldRegRegForms : Forms :=
  regs8.flatMap fun d => regs8.map fun x => ([.reg8 d, .reg8 x], .plain (Instr.ldRegReg d x))

/-- LD r,(HL) (R124). -/
def ldRegIndForms : Forms := regs8.map fun d => ([.reg8 d, .ind .HL], .plain (Instr.ldRegInd d))

/-- LD (HL),r (R125). -/
def ldIndRegForms : Forms := regs8.map fun x => ([.ind .HL, .reg8 x], .plain (Instr.ldIndReg x))

/-- LD r,d8 (R121). -/
def ldRegImmForms : Forms := regs8.map fun d => ([.reg8 d, .d8], .imm8 (Instr.ldRegImm d))

/-- LD rr,d16 (R122). -/
def ldReg16ImmForms : Forms := regs16.map fun r => ([.reg16 r, .d16], .imm16 (Instr.ldReg16Imm r))

/-- LD (HL),d8 (R126), LD SP,HL (R123), the forms through HL+, HL-, BC, DE, a16 and C (R127 to R137), and LD HL,SP+r8. -/
def ldOtherForms : Forms :=
  [([.ind .HL, .d8], .imm8 .ld_indHL_d8),
   ([.reg16 .SP, .reg16 .HL], .plain .ld_SP_HL),
   ([.ind .BC, .reg8 .A], .plain .ld_indBC_A),
   ([.ind .DE, .reg8 .A], .plain .ld_indDE_A),
   ([.reg8 .A, .ind .BC], .plain .ld_A_indBC),
   ([.reg8 .A, .ind .DE], .plain .ld_A_indDE),
   ([.indHLinc, .reg8 .A], .plain .ld_indHLinc_A),
   ([.indHLdec, .reg8 .A], .plain .ld_indHLdec_A),
   ([.reg8 .A, .indHLinc], .plain .ld_A_indHLinc),
   ([.reg8 .A, .indHLdec], .plain .ld_A_indHLdec),
   ([.indA16, .reg8 .A], .imm16 .ld_indA16_A),
   ([.reg8 .A, .indA16], .imm16 .ld_A_indA16),
   ([.indA16, .reg16 .SP], .imm16 .ld_indA16_SP),
   ([.indC, .reg8 .A], .plain .ld_indC_A),
   ([.reg8 .A, .indC], .plain .ld_A_indC),
   ([.reg16 .HL, .spPlusR8], .imm8 .ld_HL_SPr8)]

/-- The forms of each mnemonic. A mnemonic with an empty list has no handler (R77); PREFIX CB is no instruction (R73). -/
def formsOf : Mnemonic → Forms
  | .NOP => [([], .plain .nop)]
  | .LD => ldRegRegForms ++ ldRegIndForms ++ ldIndRegForms ++ ldRegImmForms ++ ldReg16ImmForms ++ ldOtherForms
  | .INC => locForms [] Instr.incLoc ++ regs16.map fun r => ([.reg16 r], .plain (Instr.incReg16 r))
  | .DEC => locForms [] Instr.decLoc ++ regs16.map fun r => ([.reg16 r], .plain (Instr.decReg16 r))
  | .ADD => locForms [.reg8 .A] Instr.addLoc ++ [([.reg8 .A, .d8], .imm8 .add_A_d8)] ++
      (regs16.map fun r => ([.reg16 .HL, .reg16 r], .plain (Instr.addHLReg16 r))) ++
      [([.reg16 .SP, .r8], .imm8 .add_SP_r8)]
  | .ADC => locForms [.reg8 .A] Instr.adcLoc ++ [([.reg8 .A, .d8], .imm8 .adc_A_d8)]
  | .SBC => locForms [.reg8 .A] Instr.sbcLoc ++ [([.reg8 .A, .d8], .imm8 .sbc_A_d8)]
  | .SUB => locForms [] Instr.subLoc ++ [([.d8], .imm8 .sub_d8)]
  | .CP => locForms [] Instr.cpLoc ++ [([.d8], .imm8 .cp_d8)]
  | .AND => locForms [] Instr.andLoc ++ [([.d8], .imm8 .and_d8)]
  | .XOR => locForms [] Instr.xorLoc ++ [([.d8], .imm8 .xor_d8)]
  | .OR => locForms [] Instr.orLoc ++ [([.d8], .imm8 .or_d8)]
  | .JR => [([.r8], .imm8 .jr_r8)] ++ conds.map fun c => ([.cond c, .r8], .imm8 (Instr.jrCond c))
  | .JP => [([.a16], .imm16 .jp_a16), ([.ind .HL], .plain .jp_indHL)] ++
      conds.map fun c => ([.cond c, .a16], .imm16 (Instr.jpCond c))
  | .CALL => [([.a16], .imm16 .call_a16)] ++ conds.map fun c => ([.cond c, .a16], .imm16 (Instr.callCond c))
  | .RET => [([], .plain .ret)] ++ conds.map fun c => ([.cond c], .plain (Instr.retCond c))
  | .PUSH => (pairs.map fun p => ([.reg16 p.toReg16], .plain (Instr.pushPair p))) ++ [([.AF], .plain .push_AF)]
  | .POP => (pairs.map fun p => ([.reg16 p.toReg16], .plain (Instr.popPair p))) ++ [([.AF], .plain .pop_AF)]
  | .RST => Config.bits.map fun k => ([.rst k], .plain (Instr.rstVec k))
  | .LDH => [([.indA8, .reg8 .A], .imm8 .ldh_indA8_A), ([.reg8 .A, .indA8], .imm8 .ldh_A_indA8)]
  | .RLCA => [([], .plain .rlca)]
  | .RRCA => [([], .plain .rrca)]
  | .RLA => [([], .plain .rla)]
  | .RRA => [([], .plain .rra)]
  | .STOP => [([.bit .n0], .imm8 .stop_0)]
  | .DAA => [([], .plain .daa)]
  | .CPL => [([], .plain .cpl)]
  | .SCF => [([], .plain .scf)]
  | .CCF => [([], .plain .ccf)]
  | .HALT => [([], .plain .halt)]
  | .RETI => [([], .plain .reti)]
  | .DI => [([], .plain .di)]
  | .EI => [([], .plain .ei)]
  | .RLC => locForms [] .rlc_r
  | .RRC => locForms [] .rrc_r
  | .RL => locForms [] Instr.rlLoc
  | .RR => locForms [] .rr_r
  | .SLA => locForms [] .sla_r
  | .SRA => locForms [] .sra_r
  | .SWAP => locForms [] .swap_r
  | .SRL => locForms [] .srl_r
  | .BIT => bitForms Instr.bitLoc
  | .RES => bitForms .res_b_r
  | .SET => bitForms .set_b_r
  | .PREFIX => []
  | .other _ => []

/-- The builder of a name, if some constructor stands for it. -/
def FormName.builder (n : FormName) : Option Builder :=
  ((formsOf n.mnemonic).find? fun f => decide (f.1 = n.operands)).map Prod.snd

/-! ### Decoding -/

/-- What a sequence of bytes decodes to. -/
inductive Decoded where
  /-- An instruction, with the length and flag code its table entry gives it (R65). -/
  | instr (i : Instr) (e : Entry)
  /-- No table entry (R74), or a prefix byte with no byte after it (R75): an instruction that only raises its fault. -/
  | undecodable (i : Instr)
  /-- A table entry whose name no constructor stands for (R77): UnimplementedInstruction. -/
  | noHandler (name : FormName)
  /-- Fewer bytes than the instruction has. A fetch never gives that few. -/
  | short
  deriving DecidableEq, Repr

/-- The entry of a key in one section (R74). -/
def sectionEntry (sec : List (Option Descriptor)) (key : Byte) : Option Descriptor :=
  sec.getD key.toNat none

/-- R77: the descriptor's name selects the instruction, its immediate comes from the bytes after the opcode (R70). -/
def dispatch (d : Descriptor) (rest : List Byte) : Decoded :=
  match d.name.builder with
  | none => .noHandler d.name
  | some b =>
    match b.build rest with
    | none => .short
    | some i => .instr i d.entry

/-- R73 to R75, on the bytes that stand at the instruction's address and after it: one byte alone where no further byte exists. -/
def decode (p : Params) : List Byte → Decoded
  | [] => .short
  | b0 :: rest =>
    if b0 = p.prefixByte then
      match rest with
      | [] => .undecodable .prefix_CB
      | b1 :: rest' =>
        match sectionEntry p.table.secondary b1 with
        | none => .undecodable (.absent [b0, b1])
        | some d => dispatch d rest'
    else
      match sectionEntry p.table.primary b0 with
      | none => .undecodable (.absent [b0])
      | some d => dispatch d rest

/-- The instruction decoded, if there is one. -/
def Decoded.instr? : Decoded → Option Instr
  | .instr i _ => some i
  | .undecodable i => some i
  | .noHandler _ => none
  | .short => none

/-- The bytes of a table word. The table numbers a primary row's byte in bits 7..0 and the two bytes of a CB row as one word
with the PREFIX byte, which is fetched first, in bits 15..8. Any other word has its first byte in bits 7..0. The bytes the word
does not give are zero; the row PREFIX CB is one byte alone (assumption log 19). -/
def tableWordBytes (nbits w : Nat) : List Byte :=
  if nbits = 8 ∧ w = 0xCB then [0xCB]
  else if nbits = 16 ∧ w / 256 = 0xCB then [0xCB, BitVec.ofNat 8 w, 0]
  else [BitVec.ofNat 8 w, BitVec.ofNat 8 (w / 256), BitVec.ofNat 8 (w / 65536)]

/-- The instruction the decoder reads, under the reference table, from a word as spec/opcode_table.json numbers its bits. -/
def decodeTableWord (nbits w : Nat) : Option Instr :=
  (decode Config.reference (tableWordBytes nbits w)).instr?

/-! ### Encoding -/

/-- The code of a register in an `r` field (R69). -/
def Reg8.code : Reg8 → Byte
  | .B => 0
  | .C => 1
  | .D => 2
  | .E => 3
  | .H => 4
  | .L => 5
  | .A => 7

/-- The code of a register or (HL) in an `r` field (R69). -/
def Loc8.code : Loc8 → Byte
  | .reg r => r.code
  | .indHL => 6

/-- The code of an `rr` field (R69). -/
def Reg16.code : Reg16 → Byte
  | .BC => 0
  | .DE => 1
  | .HL => 2
  | .SP => 3

/-- The code of a `qq` field (R69). -/
def Pair.code (p : Pair) : Byte := p.toReg16.code

/-- The code of a `cc` field (R69). -/
def Cond.code : Cond → Byte
  | .NZ => 0
  | .Z => 1
  | .NC => 2
  | .C => 3

/-- The code of a `b` field (R69). -/
def Oct.code (b : Oct) : Byte := BitVec.ofNat 8 b.val

/-- The operand bytes of an instruction, in fetch order (R51, R68). -/
def Instr.imm : Instr → List Byte
  | .ld_BC_d16 nn => imm16Bytes nn
  | .ld_B_d8 n => [n]
  | .ld_indA16_SP nn => imm16Bytes nn
  | .ld_C_d8 n => [n]
  | .stop_0 n => [n]
  | .ld_DE_d16 nn => imm16Bytes nn
  | .ld_D_d8 n => [n]
  | .jr_r8 n => [n]
  | .ld_E_d8 n => [n]
  | .jr_NZ_r8 n => [n]
  | .ld_HL_d16 nn => imm16Bytes nn
  | .ld_H_d8 n => [n]
  | .jr_Z_r8 n => [n]
  | .ld_L_d8 n => [n]
  | .jr_NC_r8 n => [n]
  | .ld_SP_d16 nn => imm16Bytes nn
  | .ld_indHL_d8 n => [n]
  | .jr_C_r8 n => [n]
  | .ld_A_d8 n => [n]
  | .jp_NZ_a16 nn => imm16Bytes nn
  | .jp_a16 nn => imm16Bytes nn
  | .call_NZ_a16 nn => imm16Bytes nn
  | .add_A_d8 n => [n]
  | .jp_Z_a16 nn => imm16Bytes nn
  | .call_Z_a16 nn => imm16Bytes nn
  | .call_a16 nn => imm16Bytes nn
  | .adc_A_d8 n => [n]
  | .jp_NC_a16 nn => imm16Bytes nn
  | .absent _ => []
  | .call_NC_a16 nn => imm16Bytes nn
  | .sub_d8 n => [n]
  | .jp_C_a16 nn => imm16Bytes nn
  | .call_C_a16 nn => imm16Bytes nn
  | .sbc_A_d8 n => [n]
  | .ldh_indA8_A n => [n]
  | .and_d8 n => [n]
  | .add_SP_r8 n => [n]
  | .ld_indA16_A nn => imm16Bytes nn
  | .xor_d8 n => [n]
  | .ldh_A_indA8 n => [n]
  | .or_d8 n => [n]
  | .ld_HL_SPr8 n => [n]
  | .ld_A_indA16 nn => imm16Bytes nn
  | .cp_d8 n => [n]
  | .rlc_r _ => []
  | .rrc_r _ => []
  | .rr_r _ => []
  | .sla_r _ => []
  | .sra_r _ => []
  | .swap_r _ => []
  | .srl_r _ => []
  | .res_b_r _ _ => []
  | .set_b_r _ _ => []
  | .nop => []
  | .ld_indBC_A => []
  | .inc_BC => []
  | .inc_B => []
  | .dec_B => []
  | .rlca => []
  | .add_HL_BC => []
  | .ld_A_indBC => []
  | .dec_BC => []
  | .inc_C => []
  | .dec_C => []
  | .rrca => []
  | .ld_indDE_A => []
  | .inc_DE => []
  | .inc_D => []
  | .dec_D => []
  | .rla => []
  | .add_HL_DE => []
  | .ld_A_indDE => []
  | .dec_DE => []
  | .inc_E => []
  | .dec_E => []
  | .rra => []
  | .ld_indHLinc_A => []
  | .inc_HL => []
  | .inc_H => []
  | .dec_H => []
  | .daa => []
  | .add_HL_HL => []
  | .ld_A_indHLinc => []
  | .dec_HL => []
  | .inc_L => []
  | .dec_L => []
  | .cpl => []
  | .ld_indHLdec_A => []
  | .inc_SP => []
  | .inc_indHL => []
  | .dec_indHL => []
  | .scf => []
  | .add_HL_SP => []
  | .ld_A_indHLdec => []
  | .dec_SP => []
  | .inc_A => []
  | .dec_A => []
  | .ccf => []
  | .ld_B_B => []
  | .ld_B_C => []
  | .ld_B_D => []
  | .ld_B_E => []
  | .ld_B_H => []
  | .ld_B_L => []
  | .ld_B_indHL => []
  | .ld_B_A => []
  | .ld_C_B => []
  | .ld_C_C => []
  | .ld_C_D => []
  | .ld_C_E => []
  | .ld_C_H => []
  | .ld_C_L => []
  | .ld_C_indHL => []
  | .ld_C_A => []
  | .ld_D_B => []
  | .ld_D_C => []
  | .ld_D_D => []
  | .ld_D_E => []
  | .ld_D_H => []
  | .ld_D_L => []
  | .ld_D_indHL => []
  | .ld_D_A => []
  | .ld_E_B => []
  | .ld_E_C => []
  | .ld_E_D => []
  | .ld_E_E => []
  | .ld_E_H => []
  | .ld_E_L => []
  | .ld_E_indHL => []
  | .ld_E_A => []
  | .ld_H_B => []
  | .ld_H_C => []
  | .ld_H_D => []
  | .ld_H_E => []
  | .ld_H_H => []
  | .ld_H_L => []
  | .ld_H_indHL => []
  | .ld_H_A => []
  | .ld_L_B => []
  | .ld_L_C => []
  | .ld_L_D => []
  | .ld_L_E => []
  | .ld_L_H => []
  | .ld_L_L => []
  | .ld_L_indHL => []
  | .ld_L_A => []
  | .ld_indHL_B => []
  | .ld_indHL_C => []
  | .ld_indHL_D => []
  | .ld_indHL_E => []
  | .ld_indHL_H => []
  | .ld_indHL_L => []
  | .halt => []
  | .ld_indHL_A => []
  | .ld_A_B => []
  | .ld_A_C => []
  | .ld_A_D => []
  | .ld_A_E => []
  | .ld_A_H => []
  | .ld_A_L => []
  | .ld_A_indHL => []
  | .ld_A_A => []
  | .add_A_B => []
  | .add_A_C => []
  | .add_A_D => []
  | .add_A_E => []
  | .add_A_H => []
  | .add_A_L => []
  | .add_A_indHL => []
  | .add_A_A => []
  | .adc_A_B => []
  | .adc_A_C => []
  | .adc_A_D => []
  | .adc_A_E => []
  | .adc_A_H => []
  | .adc_A_L => []
  | .adc_A_indHL => []
  | .adc_A_A => []
  | .sub_B => []
  | .sub_C => []
  | .sub_D => []
  | .sub_E => []
  | .sub_H => []
  | .sub_L => []
  | .sub_indHL => []
  | .sub_A => []
  | .sbc_A_B => []
  | .sbc_A_C => []
  | .sbc_A_D => []
  | .sbc_A_E => []
  | .sbc_A_H => []
  | .sbc_A_L => []
  | .sbc_A_indHL => []
  | .sbc_A_A => []
  | .and_B => []
  | .and_C => []
  | .and_D => []
  | .and_E => []
  | .and_H => []
  | .and_L => []
  | .and_indHL => []
  | .and_A => []
  | .xor_B => []
  | .xor_C => []
  | .xor_D => []
  | .xor_E => []
  | .xor_H => []
  | .xor_L => []
  | .xor_indHL => []
  | .xor_A => []
  | .or_B => []
  | .or_C => []
  | .or_D => []
  | .or_E => []
  | .or_H => []
  | .or_L => []
  | .or_indHL => []
  | .or_A => []
  | .cp_B => []
  | .cp_C => []
  | .cp_D => []
  | .cp_E => []
  | .cp_H => []
  | .cp_L => []
  | .cp_indHL => []
  | .cp_A => []
  | .ret_NZ => []
  | .pop_BC => []
  | .push_BC => []
  | .rst_00H => []
  | .ret_Z => []
  | .ret => []
  | .prefix_CB => []
  | .rst_08H => []
  | .ret_NC => []
  | .pop_DE => []
  | .push_DE => []
  | .rst_10H => []
  | .ret_C => []
  | .reti => []
  | .rst_18H => []
  | .pop_HL => []
  | .ld_indC_A => []
  | .push_HL => []
  | .rst_20H => []
  | .jp_indHL => []
  | .rst_28H => []
  | .pop_AF => []
  | .ld_A_indC => []
  | .di => []
  | .push_AF => []
  | .rst_30H => []
  | .ld_SP_HL => []
  | .ei => []
  | .rst_38H => []
  | .rl_B => []
  | .rl_C => []
  | .rl_D => []
  | .rl_E => []
  | .rl_H => []
  | .rl_L => []
  | .rl_indHL => []
  | .rl_A => []
  | .bit_0_B => []
  | .bit_0_C => []
  | .bit_0_D => []
  | .bit_0_E => []
  | .bit_0_H => []
  | .bit_0_L => []
  | .bit_0_indHL => []
  | .bit_0_A => []
  | .bit_1_B => []
  | .bit_1_C => []
  | .bit_1_D => []
  | .bit_1_E => []
  | .bit_1_H => []
  | .bit_1_L => []
  | .bit_1_indHL => []
  | .bit_1_A => []
  | .bit_2_B => []
  | .bit_2_C => []
  | .bit_2_D => []
  | .bit_2_E => []
  | .bit_2_H => []
  | .bit_2_L => []
  | .bit_2_indHL => []
  | .bit_2_A => []
  | .bit_3_B => []
  | .bit_3_C => []
  | .bit_3_D => []
  | .bit_3_E => []
  | .bit_3_H => []
  | .bit_3_L => []
  | .bit_3_indHL => []
  | .bit_3_A => []
  | .bit_4_B => []
  | .bit_4_C => []
  | .bit_4_D => []
  | .bit_4_E => []
  | .bit_4_H => []
  | .bit_4_L => []
  | .bit_4_indHL => []
  | .bit_4_A => []
  | .bit_5_B => []
  | .bit_5_C => []
  | .bit_5_D => []
  | .bit_5_E => []
  | .bit_5_H => []
  | .bit_5_L => []
  | .bit_5_indHL => []
  | .bit_5_A => []
  | .bit_6_B => []
  | .bit_6_C => []
  | .bit_6_D => []
  | .bit_6_E => []
  | .bit_6_H => []
  | .bit_6_L => []
  | .bit_6_indHL => []
  | .bit_6_A => []
  | .bit_7_B => []
  | .bit_7_C => []
  | .bit_7_D => []
  | .bit_7_E => []
  | .bit_7_H => []
  | .bit_7_L => []
  | .bit_7_indHL => []
  | .bit_7_A => []

/-- The first of the keys 0 to 255 whose entry in a section has the given name, `skip` left out. -/
def keyOf (sec : List (Option Descriptor)) (skip : Option Byte) (name : FormName) : Option Byte :=
  ((List.range 256).map (BitVec.ofNat 8)).find? fun k =>
    decide (some k ≠ skip) && decide ((sectionEntry sec k).map Descriptor.name = some name)

/-- The opcode byte or bytes of a name: its primary key, else the PREFIX byte and its prefixed key (R68, R73). -/
def opcodeOf (p : Params) (name : FormName) : Option (List Byte) :=
  match keyOf p.table.primary (some p.prefixByte) name with
  | some k => some [k]
  | none => (keyOf p.table.secondary none name).map fun k => [p.prefixByte, k]

/-- The bytes of an instruction under the table of `p`: opcode bytes, then operand bytes (R51). Nothing where the table has no
key for it. -/
def encode (p : Params) (i : Instr) : Option (List Byte) :=
  match i.view with
  | .named name => (opcodeOf p name).map (· ++ i.imm)
  | .absent [b0] => if b0 ≠ p.prefixByte ∧ sectionEntry p.table.primary b0 = none then some [b0] else none
  | .absent [b0, b1] =>
    if b0 = p.prefixByte ∧ sectionEntry p.table.secondary b1 = none then some [b0, b1] else none
  | .absent _ => none
  | .truncated => some [p.prefixByte]

/-! ### Names and table entries as text (R65, R66, R72, R83) -/

/-- The mnemonics of the reference table. -/
def mnemonics : List Mnemonic :=
  [.NOP, .LD, .INC, .DEC, .RLCA, .ADD, .RRCA, .STOP, .RLA, .JR,
   .RRA, .DAA, .CPL, .SCF, .CCF, .HALT, .ADC, .SUB, .SBC, .AND,
   .XOR, .OR, .CP, .RET, .POP, .JP, .CALL, .PUSH, .RST, .PREFIX,
   .RETI, .LDH, .DI, .EI, .RLC, .RRC, .RL, .RR, .SLA, .SRA,
   .SWAP, .SRL, .BIT, .RES, .SET]

/-- The text of a mnemonic. -/
def Mnemonic.text : Mnemonic → List Char
  | .NOP => "NOP".toList
  | .LD => "LD".toList
  | .INC => "INC".toList
  | .DEC => "DEC".toList
  | .RLCA => "RLCA".toList
  | .ADD => "ADD".toList
  | .RRCA => "RRCA".toList
  | .STOP => "STOP".toList
  | .RLA => "RLA".toList
  | .JR => "JR".toList
  | .RRA => "RRA".toList
  | .DAA => "DAA".toList
  | .CPL => "CPL".toList
  | .SCF => "SCF".toList
  | .CCF => "CCF".toList
  | .HALT => "HALT".toList
  | .ADC => "ADC".toList
  | .SUB => "SUB".toList
  | .SBC => "SBC".toList
  | .AND => "AND".toList
  | .XOR => "XOR".toList
  | .OR => "OR".toList
  | .CP => "CP".toList
  | .RET => "RET".toList
  | .POP => "POP".toList
  | .JP => "JP".toList
  | .CALL => "CALL".toList
  | .PUSH => "PUSH".toList
  | .RST => "RST".toList
  | .PREFIX => "PREFIX".toList
  | .RETI => "RETI".toList
  | .LDH => "LDH".toList
  | .DI => "DI".toList
  | .EI => "EI".toList
  | .RLC => "RLC".toList
  | .RRC => "RRC".toList
  | .RL => "RL".toList
  | .RR => "RR".toList
  | .SLA => "SLA".toList
  | .SRA => "SRA".toList
  | .SWAP => "SWAP".toList
  | .SRL => "SRL".toList
  | .BIT => "BIT".toList
  | .RES => "RES".toList
  | .SET => "SET".toList
  | .other t => t

/-- The tokens of R71 but the condition C, which shares its text with the register. -/
def tokens : List Token :=
  [.reg8 .B, .reg8 .C, .reg8 .D, .reg8 .E, .reg8 .H, .reg8 .L, .reg8 .A, .reg16 .BC,
   .reg16 .DE, .reg16 .HL, .reg16 .SP, .ind .BC, .ind .DE, .ind .HL, .indHLinc, .indHLdec,
   .indC, .indA16, .indA8, .d8, .d16, .a16, .r8, .cond .NZ,
   .cond .Z, .cond .NC, .bit .n0, .bit .n1, .bit .n2, .bit .n3, .bit .n4, .bit .n5,
   .bit .n6, .bit .n7, .rst .n0, .rst .n1, .rst .n2, .rst .n3, .rst .n4, .rst .n5,
   .rst .n6, .rst .n7, .spPlusR8, .AF, .CB]

/-- The text of a token. -/
def Token.text : Token → List Char
  | .reg8 .B => "B".toList
  | .reg8 .C => "C".toList
  | .reg8 .D => "D".toList
  | .reg8 .E => "E".toList
  | .reg8 .H => "H".toList
  | .reg8 .L => "L".toList
  | .reg8 .A => "A".toList
  | .reg16 .BC => "BC".toList
  | .reg16 .DE => "DE".toList
  | .reg16 .HL => "HL".toList
  | .reg16 .SP => "SP".toList
  | .ind .BC => "(BC)".toList
  | .ind .DE => "(DE)".toList
  | .ind .HL => "(HL)".toList
  | .indHLinc => "(HL+)".toList
  | .indHLdec => "(HL-)".toList
  | .indC => "(C)".toList
  | .indA16 => "(a16)".toList
  | .indA8 => "(a8)".toList
  | .d8 => "d8".toList
  | .d16 => "d16".toList
  | .a16 => "a16".toList
  | .r8 => "r8".toList
  | .cond .NZ => "NZ".toList
  | .cond .Z => "Z".toList
  | .cond .NC => "NC".toList
  | .cond .C => "C".toList
  | .bit .n0 => "0".toList
  | .bit .n1 => "1".toList
  | .bit .n2 => "2".toList
  | .bit .n3 => "3".toList
  | .bit .n4 => "4".toList
  | .bit .n5 => "5".toList
  | .bit .n6 => "6".toList
  | .bit .n7 => "7".toList
  | .rst .n0 => "00H".toList
  | .rst .n1 => "08H".toList
  | .rst .n2 => "10H".toList
  | .rst .n3 => "18H".toList
  | .rst .n4 => "20H".toList
  | .rst .n5 => "28H".toList
  | .rst .n6 => "30H".toList
  | .rst .n7 => "38H".toList
  | .spPlusR8 => "SP+r8".toList
  | .AF => "AF".toList
  | .CB => "CB".toList
  | .other t => t

/-- The descriptor name as text: mnemonic, a space, the tokens with commas between (R66, R83). -/
def FormName.text (n : FormName) : List Char :=
  match n.operands with
  | [] => n.mnemonic.text
  | ts => n.mnemonic.text ++ ' ' :: ((ts.map Token.text).intersperse [',']).flatten

/-- Splits a text at a separator. -/
def splitAt (sep : Char) : List Char → List (List Char)
  | [] => [[]]
  | c :: cs =>
    if c = sep then [] :: splitAt sep cs
    else
      match splitAt sep cs with
      | [] => [[c]]
      | w :: ws => (c :: w) :: ws

/-- The mnemonic a text names. -/
def parseMnemonic (t : List Char) : Mnemonic :=
  (mnemonics.find? fun m => decide (m.text = t)).getD (.other t)

/-- The token a text names; the text `C` is the register here. -/
def parseToken (t : List Char) : Token :=
  (tokens.find? fun k => decide (k.text = t)).getD (.other t)

/-- R72: the token C is a condition as the first of two operands of JR, CALL or JP, or as the only operand of RET. -/
def resolveC : Mnemonic → List Token → List Token
  | .JR, [.reg8 .C, x] => [.cond .C, x]
  | .CALL, [.reg8 .C, x] => [.cond .C, x]
  | .JP, [.reg8 .C, x] => [.cond .C, x]
  | .RET, [.reg8 .C] => [.cond .C]
  | _, ts => ts

/-- R66: the mnemonic is the text before the first space, the tokens are the rest split at commas. -/
def parseName (t : List Char) : FormName :=
  let m := parseMnemonic (t.takeWhile (· != ' '))
  match t.dropWhile (· != ' ') with
  | [] => ⟨m, []⟩
  | _ :: rest => ⟨m, resolveC m ((splitAt ',' rest).map parseToken)⟩

/-- The value of a decimal digit. -/
def decDigit (c : Char) : Option Nat :=
  if '0'.toNat ≤ c.toNat ∧ c.toNat ≤ '9'.toNat then some (c.toNat - '0'.toNat) else none

/-- The value of a hexadecimal digit, of either case. -/
def hexDigit (c : Char) : Option Nat :=
  if 'a'.toNat ≤ c.toNat ∧ c.toNat ≤ 'f'.toNat then some (c.toNat - 'a'.toNat + 10)
  else if 'A'.toNat ≤ c.toNat ∧ c.toNat ≤ 'F'.toNat then some (c.toNat - 'A'.toNat + 10)
  else decDigit c

/-- Reads digits after what has been read, most significant first. -/
def digitsFrom (digit : Char → Option Nat) (base : Nat) (acc : Nat) : List Char → Option Nat
  | [] => some acc
  | c :: cs =>
    match digit c with
    | none => none
    | some d => digitsFrom digit base (acc * base + d) cs

/-- A number of at least one digit. -/
def parseDigits (digit : Char → Option Nat) (base : Nat) : List Char → Option Nat
  | [] => none
  | c :: cs => digitsFrom digit base 0 (c :: cs)

/-- One symbol of a flag-effect code: any symbol but 0, 1 and - means computed (R32). -/
def FlagSym.ofChar (c : Char) : FlagSym :=
  if c = '0' then .force0 else if c = '1' then .force1 else if c = '-' then .keep else .computed

/-- A flag-effect code of four symbols (R65). -/
def FlagCode.parse : List Char → Option FlagCode
  | [z, n, h, c] => some ⟨.ofChar z, .ofChar n, .ofChar h, .ofChar c⟩
  | _ => none

/-- A table entry as its producer supplies it (R65): three texts. -/
structure RawEntry where
  name : List Char
  length : List Char
  flags : List Char
  deriving DecidableEq, Repr

/-- R65, R66: the descriptor of a supplied entry; nothing if the length is no decimal integer or the code has not four symbols. -/
def RawEntry.load (r : RawEntry) : Option Descriptor :=
  match parseDigits decDigit 10 r.length, FlagCode.parse r.flags with
  | some len, some flags => some ⟨parseName r.name, ⟨len, flags⟩⟩
  | _, _ => none

/-- Loads one section; a key may be absent. -/
def loadSection : List (Option RawEntry) → Option (List (Option Descriptor))
  | [] => some []
  | none :: rs => (loadSection rs).map (none :: ·)
  | some r :: rs =>
    match r.load, loadSection rs with
    | some d, some ds => some (some d :: ds)
    | _, _ => none

/-- R65, R36: the table a producer supplies, refused (`none`) if an entry breaks the schema or its code is ill formed. -/
def loadTable (primary secondary : List (Option RawEntry)) : Option OpcodeTable :=
  match loadSection primary, loadSection secondary with
  | some p, some s => if (OpcodeTable.mk p s).wellFormed then some ⟨p, s⟩ else none
  | _, _ => none

/-! ### Every constructor's decoding, by the words of spec/opcode_table.json. The operand bytes are 0x34 and 0x12. -/

set_option Elab.async false

theorem decode_keys_00 : [[0x00, 0x34, 0x12], [0x01, 0x34, 0x12], [0x02, 0x34, 0x12], [0x03, 0x34, 0x12], [0x04, 0x34, 0x12], [0x05, 0x34, 0x12], [0x06, 0x34, 0x12], [0x07, 0x34, 0x12], [0x08, 0x34, 0x12], [0x09, 0x34, 0x12], [0x0A, 0x34, 0x12], [0x0B, 0x34, 0x12], [0x0C, 0x34, 0x12], [0x0D, 0x34, 0x12], [0x0E, 0x34, 0x12], [0x0F, 0x34, 0x12]].map (decode Config.reference) =
    [.instr (.nop) ⟨1, Config.codeNone⟩,
     .instr (.ld_BC_d16 0x1234) ⟨3, Config.codeNone⟩,
     .instr (.ld_indBC_A) ⟨1, Config.codeNone⟩,
     .instr (.inc_BC) ⟨1, Config.codeNone⟩,
     .instr (.inc_B) ⟨1, Config.codeZ0Hk⟩,
     .instr (.dec_B) ⟨1, Config.codeZ1Hk⟩,
     .instr (.ld_B_d8 0x34) ⟨2, Config.codeNone⟩,
     .instr (.rlca) ⟨1, Config.code000C⟩,
     .instr (.ld_indA16_SP 0x1234) ⟨3, Config.codeNone⟩,
     .instr (.add_HL_BC) ⟨1, Config.codek0HC⟩,
     .instr (.ld_A_indBC) ⟨1, Config.codeNone⟩,
     .instr (.dec_BC) ⟨1, Config.codeNone⟩,
     .instr (.inc_C) ⟨1, Config.codeZ0Hk⟩,
     .instr (.dec_C) ⟨1, Config.codeZ1Hk⟩,
     .instr (.ld_C_d8 0x34) ⟨2, Config.codeNone⟩,
     .instr (.rrca) ⟨1, Config.code000C⟩] := by decide +kernel

theorem decode_keys_10 : [[0x10, 0x34, 0x12], [0x11, 0x34, 0x12], [0x12, 0x34, 0x12], [0x13, 0x34, 0x12], [0x14, 0x34, 0x12], [0x15, 0x34, 0x12], [0x16, 0x34, 0x12], [0x17, 0x34, 0x12], [0x18, 0x34, 0x12], [0x19, 0x34, 0x12], [0x1A, 0x34, 0x12], [0x1B, 0x34, 0x12], [0x1C, 0x34, 0x12], [0x1D, 0x34, 0x12], [0x1E, 0x34, 0x12], [0x1F, 0x34, 0x12]].map (decode Config.reference) =
    [.instr (.stop_0 0x34) ⟨2, Config.codeNone⟩,
     .instr (.ld_DE_d16 0x1234) ⟨3, Config.codeNone⟩,
     .instr (.ld_indDE_A) ⟨1, Config.codeNone⟩,
     .instr (.inc_DE) ⟨1, Config.codeNone⟩,
     .instr (.inc_D) ⟨1, Config.codeZ0Hk⟩,
     .instr (.dec_D) ⟨1, Config.codeZ1Hk⟩,
     .instr (.ld_D_d8 0x34) ⟨2, Config.codeNone⟩,
     .instr (.rla) ⟨1, Config.code000C⟩,
     .instr (.jr_r8 0x34) ⟨2, Config.codeNone⟩,
     .instr (.add_HL_DE) ⟨1, Config.codek0HC⟩,
     .instr (.ld_A_indDE) ⟨1, Config.codeNone⟩,
     .instr (.dec_DE) ⟨1, Config.codeNone⟩,
     .instr (.inc_E) ⟨1, Config.codeZ0Hk⟩,
     .instr (.dec_E) ⟨1, Config.codeZ1Hk⟩,
     .instr (.ld_E_d8 0x34) ⟨2, Config.codeNone⟩,
     .instr (.rra) ⟨1, Config.code000C⟩] := by decide +kernel

theorem decode_keys_20 : [[0x20, 0x34, 0x12], [0x21, 0x34, 0x12], [0x22, 0x34, 0x12], [0x23, 0x34, 0x12], [0x24, 0x34, 0x12], [0x25, 0x34, 0x12], [0x26, 0x34, 0x12], [0x27, 0x34, 0x12], [0x28, 0x34, 0x12], [0x29, 0x34, 0x12], [0x2A, 0x34, 0x12], [0x2B, 0x34, 0x12], [0x2C, 0x34, 0x12], [0x2D, 0x34, 0x12], [0x2E, 0x34, 0x12], [0x2F, 0x34, 0x12]].map (decode Config.reference) =
    [.instr (.jr_NZ_r8 0x34) ⟨2, Config.codeNone⟩,
     .instr (.ld_HL_d16 0x1234) ⟨3, Config.codeNone⟩,
     .instr (.ld_indHLinc_A) ⟨1, Config.codeNone⟩,
     .instr (.inc_HL) ⟨1, Config.codeNone⟩,
     .instr (.inc_H) ⟨1, Config.codeZ0Hk⟩,
     .instr (.dec_H) ⟨1, Config.codeZ1Hk⟩,
     .instr (.ld_H_d8 0x34) ⟨2, Config.codeNone⟩,
     .instr (.daa) ⟨1, Config.codeZk0C⟩,
     .instr (.jr_Z_r8 0x34) ⟨2, Config.codeNone⟩,
     .instr (.add_HL_HL) ⟨1, Config.codek0HC⟩,
     .instr (.ld_A_indHLinc) ⟨1, Config.codeNone⟩,
     .instr (.dec_HL) ⟨1, Config.codeNone⟩,
     .instr (.inc_L) ⟨1, Config.codeZ0Hk⟩,
     .instr (.dec_L) ⟨1, Config.codeZ1Hk⟩,
     .instr (.ld_L_d8 0x34) ⟨2, Config.codeNone⟩,
     .instr (.cpl) ⟨1, Config.codek11k⟩] := by decide +kernel

theorem decode_keys_30 : [[0x30, 0x34, 0x12], [0x31, 0x34, 0x12], [0x32, 0x34, 0x12], [0x33, 0x34, 0x12], [0x34, 0x34, 0x12], [0x35, 0x34, 0x12], [0x36, 0x34, 0x12], [0x37, 0x34, 0x12], [0x38, 0x34, 0x12], [0x39, 0x34, 0x12], [0x3A, 0x34, 0x12], [0x3B, 0x34, 0x12], [0x3C, 0x34, 0x12], [0x3D, 0x34, 0x12], [0x3E, 0x34, 0x12], [0x3F, 0x34, 0x12]].map (decode Config.reference) =
    [.instr (.jr_NC_r8 0x34) ⟨2, Config.codeNone⟩,
     .instr (.ld_SP_d16 0x1234) ⟨3, Config.codeNone⟩,
     .instr (.ld_indHLdec_A) ⟨1, Config.codeNone⟩,
     .instr (.inc_SP) ⟨1, Config.codeNone⟩,
     .instr (.inc_indHL) ⟨1, Config.codeZ0Hk⟩,
     .instr (.dec_indHL) ⟨1, Config.codeZ1Hk⟩,
     .instr (.ld_indHL_d8 0x34) ⟨2, Config.codeNone⟩,
     .instr (.scf) ⟨1, Config.codek001⟩,
     .instr (.jr_C_r8 0x34) ⟨2, Config.codeNone⟩,
     .instr (.add_HL_SP) ⟨1, Config.codek0HC⟩,
     .instr (.ld_A_indHLdec) ⟨1, Config.codeNone⟩,
     .instr (.dec_SP) ⟨1, Config.codeNone⟩,
     .instr (.inc_A) ⟨1, Config.codeZ0Hk⟩,
     .instr (.dec_A) ⟨1, Config.codeZ1Hk⟩,
     .instr (.ld_A_d8 0x34) ⟨2, Config.codeNone⟩,
     .instr (.ccf) ⟨1, Config.codek00C⟩] := by decide +kernel

theorem decode_keys_40 : [[0x40, 0x34, 0x12], [0x41, 0x34, 0x12], [0x42, 0x34, 0x12], [0x43, 0x34, 0x12], [0x44, 0x34, 0x12], [0x45, 0x34, 0x12], [0x46, 0x34, 0x12], [0x47, 0x34, 0x12], [0x48, 0x34, 0x12], [0x49, 0x34, 0x12], [0x4A, 0x34, 0x12], [0x4B, 0x34, 0x12], [0x4C, 0x34, 0x12], [0x4D, 0x34, 0x12], [0x4E, 0x34, 0x12], [0x4F, 0x34, 0x12]].map (decode Config.reference) =
    [.instr (.ld_B_B) ⟨1, Config.codeNone⟩,
     .instr (.ld_B_C) ⟨1, Config.codeNone⟩,
     .instr (.ld_B_D) ⟨1, Config.codeNone⟩,
     .instr (.ld_B_E) ⟨1, Config.codeNone⟩,
     .instr (.ld_B_H) ⟨1, Config.codeNone⟩,
     .instr (.ld_B_L) ⟨1, Config.codeNone⟩,
     .instr (.ld_B_indHL) ⟨1, Config.codeNone⟩,
     .instr (.ld_B_A) ⟨1, Config.codeNone⟩,
     .instr (.ld_C_B) ⟨1, Config.codeNone⟩,
     .instr (.ld_C_C) ⟨1, Config.codeNone⟩,
     .instr (.ld_C_D) ⟨1, Config.codeNone⟩,
     .instr (.ld_C_E) ⟨1, Config.codeNone⟩,
     .instr (.ld_C_H) ⟨1, Config.codeNone⟩,
     .instr (.ld_C_L) ⟨1, Config.codeNone⟩,
     .instr (.ld_C_indHL) ⟨1, Config.codeNone⟩,
     .instr (.ld_C_A) ⟨1, Config.codeNone⟩] := by decide +kernel

theorem decode_keys_50 : [[0x50, 0x34, 0x12], [0x51, 0x34, 0x12], [0x52, 0x34, 0x12], [0x53, 0x34, 0x12], [0x54, 0x34, 0x12], [0x55, 0x34, 0x12], [0x56, 0x34, 0x12], [0x57, 0x34, 0x12], [0x58, 0x34, 0x12], [0x59, 0x34, 0x12], [0x5A, 0x34, 0x12], [0x5B, 0x34, 0x12], [0x5C, 0x34, 0x12], [0x5D, 0x34, 0x12], [0x5E, 0x34, 0x12], [0x5F, 0x34, 0x12]].map (decode Config.reference) =
    [.instr (.ld_D_B) ⟨1, Config.codeNone⟩,
     .instr (.ld_D_C) ⟨1, Config.codeNone⟩,
     .instr (.ld_D_D) ⟨1, Config.codeNone⟩,
     .instr (.ld_D_E) ⟨1, Config.codeNone⟩,
     .instr (.ld_D_H) ⟨1, Config.codeNone⟩,
     .instr (.ld_D_L) ⟨1, Config.codeNone⟩,
     .instr (.ld_D_indHL) ⟨1, Config.codeNone⟩,
     .instr (.ld_D_A) ⟨1, Config.codeNone⟩,
     .instr (.ld_E_B) ⟨1, Config.codeNone⟩,
     .instr (.ld_E_C) ⟨1, Config.codeNone⟩,
     .instr (.ld_E_D) ⟨1, Config.codeNone⟩,
     .instr (.ld_E_E) ⟨1, Config.codeNone⟩,
     .instr (.ld_E_H) ⟨1, Config.codeNone⟩,
     .instr (.ld_E_L) ⟨1, Config.codeNone⟩,
     .instr (.ld_E_indHL) ⟨1, Config.codeNone⟩,
     .instr (.ld_E_A) ⟨1, Config.codeNone⟩] := by decide +kernel

theorem decode_keys_60 : [[0x60, 0x34, 0x12], [0x61, 0x34, 0x12], [0x62, 0x34, 0x12], [0x63, 0x34, 0x12], [0x64, 0x34, 0x12], [0x65, 0x34, 0x12], [0x66, 0x34, 0x12], [0x67, 0x34, 0x12], [0x68, 0x34, 0x12], [0x69, 0x34, 0x12], [0x6A, 0x34, 0x12], [0x6B, 0x34, 0x12], [0x6C, 0x34, 0x12], [0x6D, 0x34, 0x12], [0x6E, 0x34, 0x12], [0x6F, 0x34, 0x12]].map (decode Config.reference) =
    [.instr (.ld_H_B) ⟨1, Config.codeNone⟩,
     .instr (.ld_H_C) ⟨1, Config.codeNone⟩,
     .instr (.ld_H_D) ⟨1, Config.codeNone⟩,
     .instr (.ld_H_E) ⟨1, Config.codeNone⟩,
     .instr (.ld_H_H) ⟨1, Config.codeNone⟩,
     .instr (.ld_H_L) ⟨1, Config.codeNone⟩,
     .instr (.ld_H_indHL) ⟨1, Config.codeNone⟩,
     .instr (.ld_H_A) ⟨1, Config.codeNone⟩,
     .instr (.ld_L_B) ⟨1, Config.codeNone⟩,
     .instr (.ld_L_C) ⟨1, Config.codeNone⟩,
     .instr (.ld_L_D) ⟨1, Config.codeNone⟩,
     .instr (.ld_L_E) ⟨1, Config.codeNone⟩,
     .instr (.ld_L_H) ⟨1, Config.codeNone⟩,
     .instr (.ld_L_L) ⟨1, Config.codeNone⟩,
     .instr (.ld_L_indHL) ⟨1, Config.codeNone⟩,
     .instr (.ld_L_A) ⟨1, Config.codeNone⟩] := by decide +kernel

theorem decode_keys_70 : [[0x70, 0x34, 0x12], [0x71, 0x34, 0x12], [0x72, 0x34, 0x12], [0x73, 0x34, 0x12], [0x74, 0x34, 0x12], [0x75, 0x34, 0x12], [0x76, 0x34, 0x12], [0x77, 0x34, 0x12], [0x78, 0x34, 0x12], [0x79, 0x34, 0x12], [0x7A, 0x34, 0x12], [0x7B, 0x34, 0x12], [0x7C, 0x34, 0x12], [0x7D, 0x34, 0x12], [0x7E, 0x34, 0x12], [0x7F, 0x34, 0x12]].map (decode Config.reference) =
    [.instr (.ld_indHL_B) ⟨1, Config.codeNone⟩,
     .instr (.ld_indHL_C) ⟨1, Config.codeNone⟩,
     .instr (.ld_indHL_D) ⟨1, Config.codeNone⟩,
     .instr (.ld_indHL_E) ⟨1, Config.codeNone⟩,
     .instr (.ld_indHL_H) ⟨1, Config.codeNone⟩,
     .instr (.ld_indHL_L) ⟨1, Config.codeNone⟩,
     .instr (.halt) ⟨1, Config.codeNone⟩,
     .instr (.ld_indHL_A) ⟨1, Config.codeNone⟩,
     .instr (.ld_A_B) ⟨1, Config.codeNone⟩,
     .instr (.ld_A_C) ⟨1, Config.codeNone⟩,
     .instr (.ld_A_D) ⟨1, Config.codeNone⟩,
     .instr (.ld_A_E) ⟨1, Config.codeNone⟩,
     .instr (.ld_A_H) ⟨1, Config.codeNone⟩,
     .instr (.ld_A_L) ⟨1, Config.codeNone⟩,
     .instr (.ld_A_indHL) ⟨1, Config.codeNone⟩,
     .instr (.ld_A_A) ⟨1, Config.codeNone⟩] := by decide +kernel

theorem decode_keys_80 : [[0x80, 0x34, 0x12], [0x81, 0x34, 0x12], [0x82, 0x34, 0x12], [0x83, 0x34, 0x12], [0x84, 0x34, 0x12], [0x85, 0x34, 0x12], [0x86, 0x34, 0x12], [0x87, 0x34, 0x12], [0x88, 0x34, 0x12], [0x89, 0x34, 0x12], [0x8A, 0x34, 0x12], [0x8B, 0x34, 0x12], [0x8C, 0x34, 0x12], [0x8D, 0x34, 0x12], [0x8E, 0x34, 0x12], [0x8F, 0x34, 0x12]].map (decode Config.reference) =
    [.instr (.add_A_B) ⟨1, Config.codeZ0HC⟩,
     .instr (.add_A_C) ⟨1, Config.codeZ0HC⟩,
     .instr (.add_A_D) ⟨1, Config.codeZ0HC⟩,
     .instr (.add_A_E) ⟨1, Config.codeZ0HC⟩,
     .instr (.add_A_H) ⟨1, Config.codeZ0HC⟩,
     .instr (.add_A_L) ⟨1, Config.codeZ0HC⟩,
     .instr (.add_A_indHL) ⟨1, Config.codeZ0HC⟩,
     .instr (.add_A_A) ⟨1, Config.codeZ0HC⟩,
     .instr (.adc_A_B) ⟨1, Config.codeZ0HC⟩,
     .instr (.adc_A_C) ⟨1, Config.codeZ0HC⟩,
     .instr (.adc_A_D) ⟨1, Config.codeZ0HC⟩,
     .instr (.adc_A_E) ⟨1, Config.codeZ0HC⟩,
     .instr (.adc_A_H) ⟨1, Config.codeZ0HC⟩,
     .instr (.adc_A_L) ⟨1, Config.codeZ0HC⟩,
     .instr (.adc_A_indHL) ⟨1, Config.codeZ0HC⟩,
     .instr (.adc_A_A) ⟨1, Config.codeZ0HC⟩] := by decide +kernel

theorem decode_keys_90 : [[0x90, 0x34, 0x12], [0x91, 0x34, 0x12], [0x92, 0x34, 0x12], [0x93, 0x34, 0x12], [0x94, 0x34, 0x12], [0x95, 0x34, 0x12], [0x96, 0x34, 0x12], [0x97, 0x34, 0x12], [0x98, 0x34, 0x12], [0x99, 0x34, 0x12], [0x9A, 0x34, 0x12], [0x9B, 0x34, 0x12], [0x9C, 0x34, 0x12], [0x9D, 0x34, 0x12], [0x9E, 0x34, 0x12], [0x9F, 0x34, 0x12]].map (decode Config.reference) =
    [.instr (.sub_B) ⟨1, Config.codeZ1HC⟩,
     .instr (.sub_C) ⟨1, Config.codeZ1HC⟩,
     .instr (.sub_D) ⟨1, Config.codeZ1HC⟩,
     .instr (.sub_E) ⟨1, Config.codeZ1HC⟩,
     .instr (.sub_H) ⟨1, Config.codeZ1HC⟩,
     .instr (.sub_L) ⟨1, Config.codeZ1HC⟩,
     .instr (.sub_indHL) ⟨1, Config.codeZ1HC⟩,
     .instr (.sub_A) ⟨1, Config.codeZ1HC⟩,
     .instr (.sbc_A_B) ⟨1, Config.codeZ1HC⟩,
     .instr (.sbc_A_C) ⟨1, Config.codeZ1HC⟩,
     .instr (.sbc_A_D) ⟨1, Config.codeZ1HC⟩,
     .instr (.sbc_A_E) ⟨1, Config.codeZ1HC⟩,
     .instr (.sbc_A_H) ⟨1, Config.codeZ1HC⟩,
     .instr (.sbc_A_L) ⟨1, Config.codeZ1HC⟩,
     .instr (.sbc_A_indHL) ⟨1, Config.codeZ1HC⟩,
     .instr (.sbc_A_A) ⟨1, Config.codeZ1HC⟩] := by decide +kernel

theorem decode_keys_A0 : [[0xA0, 0x34, 0x12], [0xA1, 0x34, 0x12], [0xA2, 0x34, 0x12], [0xA3, 0x34, 0x12], [0xA4, 0x34, 0x12], [0xA5, 0x34, 0x12], [0xA6, 0x34, 0x12], [0xA7, 0x34, 0x12], [0xA8, 0x34, 0x12], [0xA9, 0x34, 0x12], [0xAA, 0x34, 0x12], [0xAB, 0x34, 0x12], [0xAC, 0x34, 0x12], [0xAD, 0x34, 0x12], [0xAE, 0x34, 0x12], [0xAF, 0x34, 0x12]].map (decode Config.reference) =
    [.instr (.and_B) ⟨1, Config.codeZ010⟩,
     .instr (.and_C) ⟨1, Config.codeZ010⟩,
     .instr (.and_D) ⟨1, Config.codeZ010⟩,
     .instr (.and_E) ⟨1, Config.codeZ010⟩,
     .instr (.and_H) ⟨1, Config.codeZ010⟩,
     .instr (.and_L) ⟨1, Config.codeZ010⟩,
     .instr (.and_indHL) ⟨1, Config.codeZ010⟩,
     .instr (.and_A) ⟨1, Config.codeZ010⟩,
     .instr (.xor_B) ⟨1, Config.codeZ000⟩,
     .instr (.xor_C) ⟨1, Config.codeZ000⟩,
     .instr (.xor_D) ⟨1, Config.codeZ000⟩,
     .instr (.xor_E) ⟨1, Config.codeZ000⟩,
     .instr (.xor_H) ⟨1, Config.codeZ000⟩,
     .instr (.xor_L) ⟨1, Config.codeZ000⟩,
     .instr (.xor_indHL) ⟨1, Config.codeZ000⟩,
     .instr (.xor_A) ⟨1, Config.codeZ000⟩] := by decide +kernel

theorem decode_keys_B0 : [[0xB0, 0x34, 0x12], [0xB1, 0x34, 0x12], [0xB2, 0x34, 0x12], [0xB3, 0x34, 0x12], [0xB4, 0x34, 0x12], [0xB5, 0x34, 0x12], [0xB6, 0x34, 0x12], [0xB7, 0x34, 0x12], [0xB8, 0x34, 0x12], [0xB9, 0x34, 0x12], [0xBA, 0x34, 0x12], [0xBB, 0x34, 0x12], [0xBC, 0x34, 0x12], [0xBD, 0x34, 0x12], [0xBE, 0x34, 0x12], [0xBF, 0x34, 0x12]].map (decode Config.reference) =
    [.instr (.or_B) ⟨1, Config.codeZ000⟩,
     .instr (.or_C) ⟨1, Config.codeZ000⟩,
     .instr (.or_D) ⟨1, Config.codeZ000⟩,
     .instr (.or_E) ⟨1, Config.codeZ000⟩,
     .instr (.or_H) ⟨1, Config.codeZ000⟩,
     .instr (.or_L) ⟨1, Config.codeZ000⟩,
     .instr (.or_indHL) ⟨1, Config.codeZ000⟩,
     .instr (.or_A) ⟨1, Config.codeZ000⟩,
     .instr (.cp_B) ⟨1, Config.codeZ1HC⟩,
     .instr (.cp_C) ⟨1, Config.codeZ1HC⟩,
     .instr (.cp_D) ⟨1, Config.codeZ1HC⟩,
     .instr (.cp_E) ⟨1, Config.codeZ1HC⟩,
     .instr (.cp_H) ⟨1, Config.codeZ1HC⟩,
     .instr (.cp_L) ⟨1, Config.codeZ1HC⟩,
     .instr (.cp_indHL) ⟨1, Config.codeZ1HC⟩,
     .instr (.cp_A) ⟨1, Config.codeZ1HC⟩] := by decide +kernel

theorem decode_keys_C0 : [[0xC0, 0x34, 0x12], [0xC1, 0x34, 0x12], [0xC2, 0x34, 0x12], [0xC3, 0x34, 0x12], [0xC4, 0x34, 0x12], [0xC5, 0x34, 0x12], [0xC6, 0x34, 0x12], [0xC7, 0x34, 0x12], [0xC8, 0x34, 0x12], [0xC9, 0x34, 0x12], [0xCA, 0x34, 0x12], [0xCB], [0xCC, 0x34, 0x12], [0xCD, 0x34, 0x12], [0xCE, 0x34, 0x12], [0xCF, 0x34, 0x12]].map (decode Config.reference) =
    [.instr (.ret_NZ) ⟨1, Config.codeNone⟩,
     .instr (.pop_BC) ⟨1, Config.codeNone⟩,
     .instr (.jp_NZ_a16 0x1234) ⟨3, Config.codeNone⟩,
     .instr (.jp_a16 0x1234) ⟨3, Config.codeNone⟩,
     .instr (.call_NZ_a16 0x1234) ⟨3, Config.codeNone⟩,
     .instr (.push_BC) ⟨1, Config.codeNone⟩,
     .instr (.add_A_d8 0x34) ⟨2, Config.codeZ0HC⟩,
     .instr (.rst_00H) ⟨1, Config.codeNone⟩,
     .instr (.ret_Z) ⟨1, Config.codeNone⟩,
     .instr (.ret) ⟨1, Config.codeNone⟩,
     .instr (.jp_Z_a16 0x1234) ⟨3, Config.codeNone⟩,
     .undecodable .prefix_CB,
     .instr (.call_Z_a16 0x1234) ⟨3, Config.codeNone⟩,
     .instr (.call_a16 0x1234) ⟨3, Config.codeNone⟩,
     .instr (.adc_A_d8 0x34) ⟨2, Config.codeZ0HC⟩,
     .instr (.rst_08H) ⟨1, Config.codeNone⟩] := by decide +kernel

theorem decode_keys_D0 : [[0xD0, 0x34, 0x12], [0xD1, 0x34, 0x12], [0xD2, 0x34, 0x12], [0xD3, 0x34, 0x12], [0xD4, 0x34, 0x12], [0xD5, 0x34, 0x12], [0xD6, 0x34, 0x12], [0xD7, 0x34, 0x12], [0xD8, 0x34, 0x12], [0xD9, 0x34, 0x12], [0xDA, 0x34, 0x12], [0xDB, 0x34, 0x12], [0xDC, 0x34, 0x12], [0xDD, 0x34, 0x12], [0xDE, 0x34, 0x12], [0xDF, 0x34, 0x12]].map (decode Config.reference) =
    [.instr (.ret_NC) ⟨1, Config.codeNone⟩,
     .instr (.pop_DE) ⟨1, Config.codeNone⟩,
     .instr (.jp_NC_a16 0x1234) ⟨3, Config.codeNone⟩,
     .undecodable (.absent [0xD3]),
     .instr (.call_NC_a16 0x1234) ⟨3, Config.codeNone⟩,
     .instr (.push_DE) ⟨1, Config.codeNone⟩,
     .instr (.sub_d8 0x34) ⟨2, Config.codeZ1HC⟩,
     .instr (.rst_10H) ⟨1, Config.codeNone⟩,
     .instr (.ret_C) ⟨1, Config.codeNone⟩,
     .instr (.reti) ⟨1, Config.codeNone⟩,
     .instr (.jp_C_a16 0x1234) ⟨3, Config.codeNone⟩,
     .undecodable (.absent [0xDB]),
     .instr (.call_C_a16 0x1234) ⟨3, Config.codeNone⟩,
     .undecodable (.absent [0xDD]),
     .instr (.sbc_A_d8 0x34) ⟨2, Config.codeZ1HC⟩,
     .instr (.rst_18H) ⟨1, Config.codeNone⟩] := by decide +kernel

theorem decode_keys_E0 : [[0xE0, 0x34, 0x12], [0xE1, 0x34, 0x12], [0xE2, 0x34, 0x12], [0xE3, 0x34, 0x12], [0xE4, 0x34, 0x12], [0xE5, 0x34, 0x12], [0xE6, 0x34, 0x12], [0xE7, 0x34, 0x12], [0xE8, 0x34, 0x12], [0xE9, 0x34, 0x12], [0xEA, 0x34, 0x12], [0xEB, 0x34, 0x12], [0xEC, 0x34, 0x12], [0xED, 0x34, 0x12], [0xEE, 0x34, 0x12], [0xEF, 0x34, 0x12]].map (decode Config.reference) =
    [.instr (.ldh_indA8_A 0x34) ⟨2, Config.codeNone⟩,
     .instr (.pop_HL) ⟨1, Config.codeNone⟩,
     .instr (.ld_indC_A) ⟨1, Config.codeNone⟩,
     .undecodable (.absent [0xE3]),
     .undecodable (.absent [0xE4]),
     .instr (.push_HL) ⟨1, Config.codeNone⟩,
     .instr (.and_d8 0x34) ⟨2, Config.codeZ010⟩,
     .instr (.rst_20H) ⟨1, Config.codeNone⟩,
     .instr (.add_SP_r8 0x34) ⟨2, Config.code00HC⟩,
     .instr (.jp_indHL) ⟨1, Config.codeNone⟩,
     .instr (.ld_indA16_A 0x1234) ⟨3, Config.codeNone⟩,
     .undecodable (.absent [0xEB]),
     .undecodable (.absent [0xEC]),
     .undecodable (.absent [0xED]),
     .instr (.xor_d8 0x34) ⟨2, Config.codeZ000⟩,
     .instr (.rst_28H) ⟨1, Config.codeNone⟩] := by decide +kernel

theorem decode_keys_F0 : [[0xF0, 0x34, 0x12], [0xF1, 0x34, 0x12], [0xF2, 0x34, 0x12], [0xF3, 0x34, 0x12], [0xF4, 0x34, 0x12], [0xF5, 0x34, 0x12], [0xF6, 0x34, 0x12], [0xF7, 0x34, 0x12], [0xF8, 0x34, 0x12], [0xF9, 0x34, 0x12], [0xFA, 0x34, 0x12], [0xFB, 0x34, 0x12], [0xFC, 0x34, 0x12], [0xFD, 0x34, 0x12], [0xFE, 0x34, 0x12], [0xFF, 0x34, 0x12]].map (decode Config.reference) =
    [.instr (.ldh_A_indA8 0x34) ⟨2, Config.codeNone⟩,
     .instr (.pop_AF) ⟨1, Config.codeZNHC⟩,
     .instr (.ld_A_indC) ⟨1, Config.codeNone⟩,
     .instr (.di) ⟨1, Config.codeNone⟩,
     .undecodable (.absent [0xF4]),
     .instr (.push_AF) ⟨1, Config.codeNone⟩,
     .instr (.or_d8 0x34) ⟨2, Config.codeZ000⟩,
     .instr (.rst_30H) ⟨1, Config.codeNone⟩,
     .instr (.ld_HL_SPr8 0x34) ⟨2, Config.code00HC⟩,
     .instr (.ld_SP_HL) ⟨1, Config.codeNone⟩,
     .instr (.ld_A_indA16 0x1234) ⟨3, Config.codeNone⟩,
     .instr (.ei) ⟨1, Config.codeNone⟩,
     .undecodable (.absent [0xFC]),
     .undecodable (.absent [0xFD]),
     .instr (.cp_d8 0x34) ⟨2, Config.codeZ1HC⟩,
     .instr (.rst_38H) ⟨1, Config.codeNone⟩] := by decide +kernel

theorem decode_keys_CB_00 : [[0xCB, 0x00], [0xCB, 0x01], [0xCB, 0x02], [0xCB, 0x03], [0xCB, 0x04], [0xCB, 0x05], [0xCB, 0x06], [0xCB, 0x07], [0xCB, 0x08], [0xCB, 0x09], [0xCB, 0x0A], [0xCB, 0x0B], [0xCB, 0x0C], [0xCB, 0x0D], [0xCB, 0x0E], [0xCB, 0x0F]].map (decode Config.reference) =
    [.instr (.rlc_r (.reg .B)) ⟨2, Config.codeZ00C⟩,
     .instr (.rlc_r (.reg .C)) ⟨2, Config.codeZ00C⟩,
     .instr (.rlc_r (.reg .D)) ⟨2, Config.codeZ00C⟩,
     .instr (.rlc_r (.reg .E)) ⟨2, Config.codeZ00C⟩,
     .instr (.rlc_r (.reg .H)) ⟨2, Config.codeZ00C⟩,
     .instr (.rlc_r (.reg .L)) ⟨2, Config.codeZ00C⟩,
     .instr (.rlc_r .indHL) ⟨2, Config.codeZ00C⟩,
     .instr (.rlc_r (.reg .A)) ⟨2, Config.codeZ00C⟩,
     .instr (.rrc_r (.reg .B)) ⟨2, Config.codeZ00C⟩,
     .instr (.rrc_r (.reg .C)) ⟨2, Config.codeZ00C⟩,
     .instr (.rrc_r (.reg .D)) ⟨2, Config.codeZ00C⟩,
     .instr (.rrc_r (.reg .E)) ⟨2, Config.codeZ00C⟩,
     .instr (.rrc_r (.reg .H)) ⟨2, Config.codeZ00C⟩,
     .instr (.rrc_r (.reg .L)) ⟨2, Config.codeZ00C⟩,
     .instr (.rrc_r .indHL) ⟨2, Config.codeZ00C⟩,
     .instr (.rrc_r (.reg .A)) ⟨2, Config.codeZ00C⟩] := by decide +kernel

theorem decode_keys_CB_10 : [[0xCB, 0x10], [0xCB, 0x11], [0xCB, 0x12], [0xCB, 0x13], [0xCB, 0x14], [0xCB, 0x15], [0xCB, 0x16], [0xCB, 0x17], [0xCB, 0x18], [0xCB, 0x19], [0xCB, 0x1A], [0xCB, 0x1B], [0xCB, 0x1C], [0xCB, 0x1D], [0xCB, 0x1E], [0xCB, 0x1F]].map (decode Config.reference) =
    [.instr (.rl_B) ⟨2, Config.codeZ00C⟩,
     .instr (.rl_C) ⟨2, Config.codeZ00C⟩,
     .instr (.rl_D) ⟨2, Config.codeZ00C⟩,
     .instr (.rl_E) ⟨2, Config.codeZ00C⟩,
     .instr (.rl_H) ⟨2, Config.codeZ00C⟩,
     .instr (.rl_L) ⟨2, Config.codeZ00C⟩,
     .instr (.rl_indHL) ⟨2, Config.codeZ00C⟩,
     .instr (.rl_A) ⟨2, Config.codeZ00C⟩,
     .instr (.rr_r (.reg .B)) ⟨2, Config.codeZ00C⟩,
     .instr (.rr_r (.reg .C)) ⟨2, Config.codeZ00C⟩,
     .instr (.rr_r (.reg .D)) ⟨2, Config.codeZ00C⟩,
     .instr (.rr_r (.reg .E)) ⟨2, Config.codeZ00C⟩,
     .instr (.rr_r (.reg .H)) ⟨2, Config.codeZ00C⟩,
     .instr (.rr_r (.reg .L)) ⟨2, Config.codeZ00C⟩,
     .instr (.rr_r .indHL) ⟨2, Config.codeZ00C⟩,
     .instr (.rr_r (.reg .A)) ⟨2, Config.codeZ00C⟩] := by decide +kernel

theorem decode_keys_CB_20 : [[0xCB, 0x20], [0xCB, 0x21], [0xCB, 0x22], [0xCB, 0x23], [0xCB, 0x24], [0xCB, 0x25], [0xCB, 0x26], [0xCB, 0x27], [0xCB, 0x28], [0xCB, 0x29], [0xCB, 0x2A], [0xCB, 0x2B], [0xCB, 0x2C], [0xCB, 0x2D], [0xCB, 0x2E], [0xCB, 0x2F]].map (decode Config.reference) =
    [.instr (.sla_r (.reg .B)) ⟨2, Config.codeZ00C⟩,
     .instr (.sla_r (.reg .C)) ⟨2, Config.codeZ00C⟩,
     .instr (.sla_r (.reg .D)) ⟨2, Config.codeZ00C⟩,
     .instr (.sla_r (.reg .E)) ⟨2, Config.codeZ00C⟩,
     .instr (.sla_r (.reg .H)) ⟨2, Config.codeZ00C⟩,
     .instr (.sla_r (.reg .L)) ⟨2, Config.codeZ00C⟩,
     .instr (.sla_r .indHL) ⟨2, Config.codeZ00C⟩,
     .instr (.sla_r (.reg .A)) ⟨2, Config.codeZ00C⟩,
     .instr (.sra_r (.reg .B)) ⟨2, Config.codeZ00C⟩,
     .instr (.sra_r (.reg .C)) ⟨2, Config.codeZ00C⟩,
     .instr (.sra_r (.reg .D)) ⟨2, Config.codeZ00C⟩,
     .instr (.sra_r (.reg .E)) ⟨2, Config.codeZ00C⟩,
     .instr (.sra_r (.reg .H)) ⟨2, Config.codeZ00C⟩,
     .instr (.sra_r (.reg .L)) ⟨2, Config.codeZ00C⟩,
     .instr (.sra_r .indHL) ⟨2, Config.codeZ00C⟩,
     .instr (.sra_r (.reg .A)) ⟨2, Config.codeZ00C⟩] := by decide +kernel

theorem decode_keys_CB_30 : [[0xCB, 0x30], [0xCB, 0x31], [0xCB, 0x32], [0xCB, 0x33], [0xCB, 0x34], [0xCB, 0x35], [0xCB, 0x36], [0xCB, 0x37], [0xCB, 0x38], [0xCB, 0x39], [0xCB, 0x3A], [0xCB, 0x3B], [0xCB, 0x3C], [0xCB, 0x3D], [0xCB, 0x3E], [0xCB, 0x3F]].map (decode Config.reference) =
    [.instr (.swap_r (.reg .B)) ⟨2, Config.codeZ000⟩,
     .instr (.swap_r (.reg .C)) ⟨2, Config.codeZ000⟩,
     .instr (.swap_r (.reg .D)) ⟨2, Config.codeZ000⟩,
     .instr (.swap_r (.reg .E)) ⟨2, Config.codeZ000⟩,
     .instr (.swap_r (.reg .H)) ⟨2, Config.codeZ000⟩,
     .instr (.swap_r (.reg .L)) ⟨2, Config.codeZ000⟩,
     .instr (.swap_r .indHL) ⟨2, Config.codeZ000⟩,
     .instr (.swap_r (.reg .A)) ⟨2, Config.codeZ000⟩,
     .instr (.srl_r (.reg .B)) ⟨2, Config.codeZ00C⟩,
     .instr (.srl_r (.reg .C)) ⟨2, Config.codeZ00C⟩,
     .instr (.srl_r (.reg .D)) ⟨2, Config.codeZ00C⟩,
     .instr (.srl_r (.reg .E)) ⟨2, Config.codeZ00C⟩,
     .instr (.srl_r (.reg .H)) ⟨2, Config.codeZ00C⟩,
     .instr (.srl_r (.reg .L)) ⟨2, Config.codeZ00C⟩,
     .instr (.srl_r .indHL) ⟨2, Config.codeZ00C⟩,
     .instr (.srl_r (.reg .A)) ⟨2, Config.codeZ00C⟩] := by decide +kernel

theorem decode_keys_CB_40 : [[0xCB, 0x40], [0xCB, 0x41], [0xCB, 0x42], [0xCB, 0x43], [0xCB, 0x44], [0xCB, 0x45], [0xCB, 0x46], [0xCB, 0x47], [0xCB, 0x48], [0xCB, 0x49], [0xCB, 0x4A], [0xCB, 0x4B], [0xCB, 0x4C], [0xCB, 0x4D], [0xCB, 0x4E], [0xCB, 0x4F]].map (decode Config.reference) =
    [.instr (.bit_0_B) ⟨2, Config.codeZ01k⟩,
     .instr (.bit_0_C) ⟨2, Config.codeZ01k⟩,
     .instr (.bit_0_D) ⟨2, Config.codeZ01k⟩,
     .instr (.bit_0_E) ⟨2, Config.codeZ01k⟩,
     .instr (.bit_0_H) ⟨2, Config.codeZ01k⟩,
     .instr (.bit_0_L) ⟨2, Config.codeZ01k⟩,
     .instr (.bit_0_indHL) ⟨2, Config.codeZ01k⟩,
     .instr (.bit_0_A) ⟨2, Config.codeZ01k⟩,
     .instr (.bit_1_B) ⟨2, Config.codeZ01k⟩,
     .instr (.bit_1_C) ⟨2, Config.codeZ01k⟩,
     .instr (.bit_1_D) ⟨2, Config.codeZ01k⟩,
     .instr (.bit_1_E) ⟨2, Config.codeZ01k⟩,
     .instr (.bit_1_H) ⟨2, Config.codeZ01k⟩,
     .instr (.bit_1_L) ⟨2, Config.codeZ01k⟩,
     .instr (.bit_1_indHL) ⟨2, Config.codeZ01k⟩,
     .instr (.bit_1_A) ⟨2, Config.codeZ01k⟩] := by decide +kernel

theorem decode_keys_CB_50 : [[0xCB, 0x50], [0xCB, 0x51], [0xCB, 0x52], [0xCB, 0x53], [0xCB, 0x54], [0xCB, 0x55], [0xCB, 0x56], [0xCB, 0x57], [0xCB, 0x58], [0xCB, 0x59], [0xCB, 0x5A], [0xCB, 0x5B], [0xCB, 0x5C], [0xCB, 0x5D], [0xCB, 0x5E], [0xCB, 0x5F]].map (decode Config.reference) =
    [.instr (.bit_2_B) ⟨2, Config.codeZ01k⟩,
     .instr (.bit_2_C) ⟨2, Config.codeZ01k⟩,
     .instr (.bit_2_D) ⟨2, Config.codeZ01k⟩,
     .instr (.bit_2_E) ⟨2, Config.codeZ01k⟩,
     .instr (.bit_2_H) ⟨2, Config.codeZ01k⟩,
     .instr (.bit_2_L) ⟨2, Config.codeZ01k⟩,
     .instr (.bit_2_indHL) ⟨2, Config.codeZ01k⟩,
     .instr (.bit_2_A) ⟨2, Config.codeZ01k⟩,
     .instr (.bit_3_B) ⟨2, Config.codeZ01k⟩,
     .instr (.bit_3_C) ⟨2, Config.codeZ01k⟩,
     .instr (.bit_3_D) ⟨2, Config.codeZ01k⟩,
     .instr (.bit_3_E) ⟨2, Config.codeZ01k⟩,
     .instr (.bit_3_H) ⟨2, Config.codeZ01k⟩,
     .instr (.bit_3_L) ⟨2, Config.codeZ01k⟩,
     .instr (.bit_3_indHL) ⟨2, Config.codeZ01k⟩,
     .instr (.bit_3_A) ⟨2, Config.codeZ01k⟩] := by decide +kernel

theorem decode_keys_CB_60 : [[0xCB, 0x60], [0xCB, 0x61], [0xCB, 0x62], [0xCB, 0x63], [0xCB, 0x64], [0xCB, 0x65], [0xCB, 0x66], [0xCB, 0x67], [0xCB, 0x68], [0xCB, 0x69], [0xCB, 0x6A], [0xCB, 0x6B], [0xCB, 0x6C], [0xCB, 0x6D], [0xCB, 0x6E], [0xCB, 0x6F]].map (decode Config.reference) =
    [.instr (.bit_4_B) ⟨2, Config.codeZ01k⟩,
     .instr (.bit_4_C) ⟨2, Config.codeZ01k⟩,
     .instr (.bit_4_D) ⟨2, Config.codeZ01k⟩,
     .instr (.bit_4_E) ⟨2, Config.codeZ01k⟩,
     .instr (.bit_4_H) ⟨2, Config.codeZ01k⟩,
     .instr (.bit_4_L) ⟨2, Config.codeZ01k⟩,
     .instr (.bit_4_indHL) ⟨2, Config.codeZ01k⟩,
     .instr (.bit_4_A) ⟨2, Config.codeZ01k⟩,
     .instr (.bit_5_B) ⟨2, Config.codeZ01k⟩,
     .instr (.bit_5_C) ⟨2, Config.codeZ01k⟩,
     .instr (.bit_5_D) ⟨2, Config.codeZ01k⟩,
     .instr (.bit_5_E) ⟨2, Config.codeZ01k⟩,
     .instr (.bit_5_H) ⟨2, Config.codeZ01k⟩,
     .instr (.bit_5_L) ⟨2, Config.codeZ01k⟩,
     .instr (.bit_5_indHL) ⟨2, Config.codeZ01k⟩,
     .instr (.bit_5_A) ⟨2, Config.codeZ01k⟩] := by decide +kernel

theorem decode_keys_CB_70 : [[0xCB, 0x70], [0xCB, 0x71], [0xCB, 0x72], [0xCB, 0x73], [0xCB, 0x74], [0xCB, 0x75], [0xCB, 0x76], [0xCB, 0x77], [0xCB, 0x78], [0xCB, 0x79], [0xCB, 0x7A], [0xCB, 0x7B], [0xCB, 0x7C], [0xCB, 0x7D], [0xCB, 0x7E], [0xCB, 0x7F]].map (decode Config.reference) =
    [.instr (.bit_6_B) ⟨2, Config.codeZ01k⟩,
     .instr (.bit_6_C) ⟨2, Config.codeZ01k⟩,
     .instr (.bit_6_D) ⟨2, Config.codeZ01k⟩,
     .instr (.bit_6_E) ⟨2, Config.codeZ01k⟩,
     .instr (.bit_6_H) ⟨2, Config.codeZ01k⟩,
     .instr (.bit_6_L) ⟨2, Config.codeZ01k⟩,
     .instr (.bit_6_indHL) ⟨2, Config.codeZ01k⟩,
     .instr (.bit_6_A) ⟨2, Config.codeZ01k⟩,
     .instr (.bit_7_B) ⟨2, Config.codeZ01k⟩,
     .instr (.bit_7_C) ⟨2, Config.codeZ01k⟩,
     .instr (.bit_7_D) ⟨2, Config.codeZ01k⟩,
     .instr (.bit_7_E) ⟨2, Config.codeZ01k⟩,
     .instr (.bit_7_H) ⟨2, Config.codeZ01k⟩,
     .instr (.bit_7_L) ⟨2, Config.codeZ01k⟩,
     .instr (.bit_7_indHL) ⟨2, Config.codeZ01k⟩,
     .instr (.bit_7_A) ⟨2, Config.codeZ01k⟩] := by decide +kernel

theorem decode_keys_CB_80 : [[0xCB, 0x80], [0xCB, 0x81], [0xCB, 0x82], [0xCB, 0x83], [0xCB, 0x84], [0xCB, 0x85], [0xCB, 0x86], [0xCB, 0x87], [0xCB, 0x88], [0xCB, 0x89], [0xCB, 0x8A], [0xCB, 0x8B], [0xCB, 0x8C], [0xCB, 0x8D], [0xCB, 0x8E], [0xCB, 0x8F]].map (decode Config.reference) =
    [.instr (.res_b_r .n0 (.reg .B)) ⟨2, Config.codeNone⟩,
     .instr (.res_b_r .n0 (.reg .C)) ⟨2, Config.codeNone⟩,
     .instr (.res_b_r .n0 (.reg .D)) ⟨2, Config.codeNone⟩,
     .instr (.res_b_r .n0 (.reg .E)) ⟨2, Config.codeNone⟩,
     .instr (.res_b_r .n0 (.reg .H)) ⟨2, Config.codeNone⟩,
     .instr (.res_b_r .n0 (.reg .L)) ⟨2, Config.codeNone⟩,
     .instr (.res_b_r .n0 .indHL) ⟨2, Config.codeNone⟩,
     .instr (.res_b_r .n0 (.reg .A)) ⟨2, Config.codeNone⟩,
     .instr (.res_b_r .n1 (.reg .B)) ⟨2, Config.codeNone⟩,
     .instr (.res_b_r .n1 (.reg .C)) ⟨2, Config.codeNone⟩,
     .instr (.res_b_r .n1 (.reg .D)) ⟨2, Config.codeNone⟩,
     .instr (.res_b_r .n1 (.reg .E)) ⟨2, Config.codeNone⟩,
     .instr (.res_b_r .n1 (.reg .H)) ⟨2, Config.codeNone⟩,
     .instr (.res_b_r .n1 (.reg .L)) ⟨2, Config.codeNone⟩,
     .instr (.res_b_r .n1 .indHL) ⟨2, Config.codeNone⟩,
     .instr (.res_b_r .n1 (.reg .A)) ⟨2, Config.codeNone⟩] := by decide +kernel

theorem decode_keys_CB_90 : [[0xCB, 0x90], [0xCB, 0x91], [0xCB, 0x92], [0xCB, 0x93], [0xCB, 0x94], [0xCB, 0x95], [0xCB, 0x96], [0xCB, 0x97], [0xCB, 0x98], [0xCB, 0x99], [0xCB, 0x9A], [0xCB, 0x9B], [0xCB, 0x9C], [0xCB, 0x9D], [0xCB, 0x9E], [0xCB, 0x9F]].map (decode Config.reference) =
    [.instr (.res_b_r .n2 (.reg .B)) ⟨2, Config.codeNone⟩,
     .instr (.res_b_r .n2 (.reg .C)) ⟨2, Config.codeNone⟩,
     .instr (.res_b_r .n2 (.reg .D)) ⟨2, Config.codeNone⟩,
     .instr (.res_b_r .n2 (.reg .E)) ⟨2, Config.codeNone⟩,
     .instr (.res_b_r .n2 (.reg .H)) ⟨2, Config.codeNone⟩,
     .instr (.res_b_r .n2 (.reg .L)) ⟨2, Config.codeNone⟩,
     .instr (.res_b_r .n2 .indHL) ⟨2, Config.codeNone⟩,
     .instr (.res_b_r .n2 (.reg .A)) ⟨2, Config.codeNone⟩,
     .instr (.res_b_r .n3 (.reg .B)) ⟨2, Config.codeNone⟩,
     .instr (.res_b_r .n3 (.reg .C)) ⟨2, Config.codeNone⟩,
     .instr (.res_b_r .n3 (.reg .D)) ⟨2, Config.codeNone⟩,
     .instr (.res_b_r .n3 (.reg .E)) ⟨2, Config.codeNone⟩,
     .instr (.res_b_r .n3 (.reg .H)) ⟨2, Config.codeNone⟩,
     .instr (.res_b_r .n3 (.reg .L)) ⟨2, Config.codeNone⟩,
     .instr (.res_b_r .n3 .indHL) ⟨2, Config.codeNone⟩,
     .instr (.res_b_r .n3 (.reg .A)) ⟨2, Config.codeNone⟩] := by decide +kernel

theorem decode_keys_CB_A0 : [[0xCB, 0xA0], [0xCB, 0xA1], [0xCB, 0xA2], [0xCB, 0xA3], [0xCB, 0xA4], [0xCB, 0xA5], [0xCB, 0xA6], [0xCB, 0xA7], [0xCB, 0xA8], [0xCB, 0xA9], [0xCB, 0xAA], [0xCB, 0xAB], [0xCB, 0xAC], [0xCB, 0xAD], [0xCB, 0xAE], [0xCB, 0xAF]].map (decode Config.reference) =
    [.instr (.res_b_r .n4 (.reg .B)) ⟨2, Config.codeNone⟩,
     .instr (.res_b_r .n4 (.reg .C)) ⟨2, Config.codeNone⟩,
     .instr (.res_b_r .n4 (.reg .D)) ⟨2, Config.codeNone⟩,
     .instr (.res_b_r .n4 (.reg .E)) ⟨2, Config.codeNone⟩,
     .instr (.res_b_r .n4 (.reg .H)) ⟨2, Config.codeNone⟩,
     .instr (.res_b_r .n4 (.reg .L)) ⟨2, Config.codeNone⟩,
     .instr (.res_b_r .n4 .indHL) ⟨2, Config.codeNone⟩,
     .instr (.res_b_r .n4 (.reg .A)) ⟨2, Config.codeNone⟩,
     .instr (.res_b_r .n5 (.reg .B)) ⟨2, Config.codeNone⟩,
     .instr (.res_b_r .n5 (.reg .C)) ⟨2, Config.codeNone⟩,
     .instr (.res_b_r .n5 (.reg .D)) ⟨2, Config.codeNone⟩,
     .instr (.res_b_r .n5 (.reg .E)) ⟨2, Config.codeNone⟩,
     .instr (.res_b_r .n5 (.reg .H)) ⟨2, Config.codeNone⟩,
     .instr (.res_b_r .n5 (.reg .L)) ⟨2, Config.codeNone⟩,
     .instr (.res_b_r .n5 .indHL) ⟨2, Config.codeNone⟩,
     .instr (.res_b_r .n5 (.reg .A)) ⟨2, Config.codeNone⟩] := by decide +kernel

theorem decode_keys_CB_B0 : [[0xCB, 0xB0], [0xCB, 0xB1], [0xCB, 0xB2], [0xCB, 0xB3], [0xCB, 0xB4], [0xCB, 0xB5], [0xCB, 0xB6], [0xCB, 0xB7], [0xCB, 0xB8], [0xCB, 0xB9], [0xCB, 0xBA], [0xCB, 0xBB], [0xCB, 0xBC], [0xCB, 0xBD], [0xCB, 0xBE], [0xCB, 0xBF]].map (decode Config.reference) =
    [.instr (.res_b_r .n6 (.reg .B)) ⟨2, Config.codeNone⟩,
     .instr (.res_b_r .n6 (.reg .C)) ⟨2, Config.codeNone⟩,
     .instr (.res_b_r .n6 (.reg .D)) ⟨2, Config.codeNone⟩,
     .instr (.res_b_r .n6 (.reg .E)) ⟨2, Config.codeNone⟩,
     .instr (.res_b_r .n6 (.reg .H)) ⟨2, Config.codeNone⟩,
     .instr (.res_b_r .n6 (.reg .L)) ⟨2, Config.codeNone⟩,
     .instr (.res_b_r .n6 .indHL) ⟨2, Config.codeNone⟩,
     .instr (.res_b_r .n6 (.reg .A)) ⟨2, Config.codeNone⟩,
     .instr (.res_b_r .n7 (.reg .B)) ⟨2, Config.codeNone⟩,
     .instr (.res_b_r .n7 (.reg .C)) ⟨2, Config.codeNone⟩,
     .instr (.res_b_r .n7 (.reg .D)) ⟨2, Config.codeNone⟩,
     .instr (.res_b_r .n7 (.reg .E)) ⟨2, Config.codeNone⟩,
     .instr (.res_b_r .n7 (.reg .H)) ⟨2, Config.codeNone⟩,
     .instr (.res_b_r .n7 (.reg .L)) ⟨2, Config.codeNone⟩,
     .instr (.res_b_r .n7 .indHL) ⟨2, Config.codeNone⟩,
     .instr (.res_b_r .n7 (.reg .A)) ⟨2, Config.codeNone⟩] := by decide +kernel

theorem decode_keys_CB_C0 : [[0xCB, 0xC0], [0xCB, 0xC1], [0xCB, 0xC2], [0xCB, 0xC3], [0xCB, 0xC4], [0xCB, 0xC5], [0xCB, 0xC6], [0xCB, 0xC7], [0xCB, 0xC8], [0xCB, 0xC9], [0xCB, 0xCA], [0xCB, 0xCB], [0xCB, 0xCC], [0xCB, 0xCD], [0xCB, 0xCE], [0xCB, 0xCF]].map (decode Config.reference) =
    [.instr (.set_b_r .n0 (.reg .B)) ⟨2, Config.codeNone⟩,
     .instr (.set_b_r .n0 (.reg .C)) ⟨2, Config.codeNone⟩,
     .instr (.set_b_r .n0 (.reg .D)) ⟨2, Config.codeNone⟩,
     .instr (.set_b_r .n0 (.reg .E)) ⟨2, Config.codeNone⟩,
     .instr (.set_b_r .n0 (.reg .H)) ⟨2, Config.codeNone⟩,
     .instr (.set_b_r .n0 (.reg .L)) ⟨2, Config.codeNone⟩,
     .instr (.set_b_r .n0 .indHL) ⟨2, Config.codeNone⟩,
     .instr (.set_b_r .n0 (.reg .A)) ⟨2, Config.codeNone⟩,
     .instr (.set_b_r .n1 (.reg .B)) ⟨2, Config.codeNone⟩,
     .instr (.set_b_r .n1 (.reg .C)) ⟨2, Config.codeNone⟩,
     .instr (.set_b_r .n1 (.reg .D)) ⟨2, Config.codeNone⟩,
     .instr (.set_b_r .n1 (.reg .E)) ⟨2, Config.codeNone⟩,
     .instr (.set_b_r .n1 (.reg .H)) ⟨2, Config.codeNone⟩,
     .instr (.set_b_r .n1 (.reg .L)) ⟨2, Config.codeNone⟩,
     .instr (.set_b_r .n1 .indHL) ⟨2, Config.codeNone⟩,
     .instr (.set_b_r .n1 (.reg .A)) ⟨2, Config.codeNone⟩] := by decide +kernel

theorem decode_keys_CB_D0 : [[0xCB, 0xD0], [0xCB, 0xD1], [0xCB, 0xD2], [0xCB, 0xD3], [0xCB, 0xD4], [0xCB, 0xD5], [0xCB, 0xD6], [0xCB, 0xD7], [0xCB, 0xD8], [0xCB, 0xD9], [0xCB, 0xDA], [0xCB, 0xDB], [0xCB, 0xDC], [0xCB, 0xDD], [0xCB, 0xDE], [0xCB, 0xDF]].map (decode Config.reference) =
    [.instr (.set_b_r .n2 (.reg .B)) ⟨2, Config.codeNone⟩,
     .instr (.set_b_r .n2 (.reg .C)) ⟨2, Config.codeNone⟩,
     .instr (.set_b_r .n2 (.reg .D)) ⟨2, Config.codeNone⟩,
     .instr (.set_b_r .n2 (.reg .E)) ⟨2, Config.codeNone⟩,
     .instr (.set_b_r .n2 (.reg .H)) ⟨2, Config.codeNone⟩,
     .instr (.set_b_r .n2 (.reg .L)) ⟨2, Config.codeNone⟩,
     .instr (.set_b_r .n2 .indHL) ⟨2, Config.codeNone⟩,
     .instr (.set_b_r .n2 (.reg .A)) ⟨2, Config.codeNone⟩,
     .instr (.set_b_r .n3 (.reg .B)) ⟨2, Config.codeNone⟩,
     .instr (.set_b_r .n3 (.reg .C)) ⟨2, Config.codeNone⟩,
     .instr (.set_b_r .n3 (.reg .D)) ⟨2, Config.codeNone⟩,
     .instr (.set_b_r .n3 (.reg .E)) ⟨2, Config.codeNone⟩,
     .instr (.set_b_r .n3 (.reg .H)) ⟨2, Config.codeNone⟩,
     .instr (.set_b_r .n3 (.reg .L)) ⟨2, Config.codeNone⟩,
     .instr (.set_b_r .n3 .indHL) ⟨2, Config.codeNone⟩,
     .instr (.set_b_r .n3 (.reg .A)) ⟨2, Config.codeNone⟩] := by decide +kernel

theorem decode_keys_CB_E0 : [[0xCB, 0xE0], [0xCB, 0xE1], [0xCB, 0xE2], [0xCB, 0xE3], [0xCB, 0xE4], [0xCB, 0xE5], [0xCB, 0xE6], [0xCB, 0xE7], [0xCB, 0xE8], [0xCB, 0xE9], [0xCB, 0xEA], [0xCB, 0xEB], [0xCB, 0xEC], [0xCB, 0xED], [0xCB, 0xEE], [0xCB, 0xEF]].map (decode Config.reference) =
    [.instr (.set_b_r .n4 (.reg .B)) ⟨2, Config.codeNone⟩,
     .instr (.set_b_r .n4 (.reg .C)) ⟨2, Config.codeNone⟩,
     .instr (.set_b_r .n4 (.reg .D)) ⟨2, Config.codeNone⟩,
     .instr (.set_b_r .n4 (.reg .E)) ⟨2, Config.codeNone⟩,
     .instr (.set_b_r .n4 (.reg .H)) ⟨2, Config.codeNone⟩,
     .instr (.set_b_r .n4 (.reg .L)) ⟨2, Config.codeNone⟩,
     .instr (.set_b_r .n4 .indHL) ⟨2, Config.codeNone⟩,
     .instr (.set_b_r .n4 (.reg .A)) ⟨2, Config.codeNone⟩,
     .instr (.set_b_r .n5 (.reg .B)) ⟨2, Config.codeNone⟩,
     .instr (.set_b_r .n5 (.reg .C)) ⟨2, Config.codeNone⟩,
     .instr (.set_b_r .n5 (.reg .D)) ⟨2, Config.codeNone⟩,
     .instr (.set_b_r .n5 (.reg .E)) ⟨2, Config.codeNone⟩,
     .instr (.set_b_r .n5 (.reg .H)) ⟨2, Config.codeNone⟩,
     .instr (.set_b_r .n5 (.reg .L)) ⟨2, Config.codeNone⟩,
     .instr (.set_b_r .n5 .indHL) ⟨2, Config.codeNone⟩,
     .instr (.set_b_r .n5 (.reg .A)) ⟨2, Config.codeNone⟩] := by decide +kernel

theorem decode_keys_CB_F0 : [[0xCB, 0xF0], [0xCB, 0xF1], [0xCB, 0xF2], [0xCB, 0xF3], [0xCB, 0xF4], [0xCB, 0xF5], [0xCB, 0xF6], [0xCB, 0xF7], [0xCB, 0xF8], [0xCB, 0xF9], [0xCB, 0xFA], [0xCB, 0xFB], [0xCB, 0xFC], [0xCB, 0xFD], [0xCB, 0xFE], [0xCB, 0xFF]].map (decode Config.reference) =
    [.instr (.set_b_r .n6 (.reg .B)) ⟨2, Config.codeNone⟩,
     .instr (.set_b_r .n6 (.reg .C)) ⟨2, Config.codeNone⟩,
     .instr (.set_b_r .n6 (.reg .D)) ⟨2, Config.codeNone⟩,
     .instr (.set_b_r .n6 (.reg .E)) ⟨2, Config.codeNone⟩,
     .instr (.set_b_r .n6 (.reg .H)) ⟨2, Config.codeNone⟩,
     .instr (.set_b_r .n6 (.reg .L)) ⟨2, Config.codeNone⟩,
     .instr (.set_b_r .n6 .indHL) ⟨2, Config.codeNone⟩,
     .instr (.set_b_r .n6 (.reg .A)) ⟨2, Config.codeNone⟩,
     .instr (.set_b_r .n7 (.reg .B)) ⟨2, Config.codeNone⟩,
     .instr (.set_b_r .n7 (.reg .C)) ⟨2, Config.codeNone⟩,
     .instr (.set_b_r .n7 (.reg .D)) ⟨2, Config.codeNone⟩,
     .instr (.set_b_r .n7 (.reg .E)) ⟨2, Config.codeNone⟩,
     .instr (.set_b_r .n7 (.reg .H)) ⟨2, Config.codeNone⟩,
     .instr (.set_b_r .n7 (.reg .L)) ⟨2, Config.codeNone⟩,
     .instr (.set_b_r .n7 .indHL) ⟨2, Config.codeNone⟩,
     .instr (.set_b_r .n7 (.reg .A)) ⟨2, Config.codeNone⟩] := by decide +kernel

end Sys2Proof
end

