-- ==== Sys2Proof/Machine/State.lean ====
section
/-! DEFINITION. The state of the CORE as plain data: everything spec 10_state names (R22 to R41), the Bus memory (20_memory R43),
the decoding parameters (00_scope R11), and the model's own fields, marked so. Also the reasons a step can stop, and the state after
reset. -/
namespace Sys2Proof.Machine

/-- The register file and SP (R22, R24). BC, DE and HL have no storage of their own (R23). -/
structure Regs where
  a : Byte
  b : Byte
  c : Byte
  d : Byte
  e : Byte
  h : Byte
  l : Byte
  sp : Word
  deriving DecidableEq, Repr

/-- The FlagRegister: four independent booleans (R30). -/
structure Flags where
  z : Bool
  n : Bool
  h : Bool
  c : Bool
  deriving DecidableEq, Repr

/-- One interrupt source: IE[i], IF[i] and VEC[i] (R38). The list of sources is in priority order, so N_IRQ is its length. -/
structure IrqSource where
  enable : Bool
  pending : Bool
  vec : Word
  deriving DecidableEq, Repr

/-- The mode of the DebugController (R40). -/
inductive Mode where
  | running
  | pausedAtBreakpoint
  | steppingOneInstruction
  deriving DecidableEq, Repr

/-- A move of the host (R189). `idle` is the host doing nothing at its turn: at a boundary the loop goes on, at a pause the CORE
waits (assumption log 7). -/
inductive HostMove where
  | request (i : Nat)
  | command (line : List Char)
  | stop
  | idle
  deriving DecidableEq, Repr

/-- What the debug prompt answers (R185 to R188): the index `break` reports, some acknowledgment whose text is open, or
InvalidDebugCommand. -/
inductive Reply where
  | index (k : Nat)
  | ack
  | invalidDebugCommand
  deriving DecidableEq, Repr

/-- A fault record (R158). `step` answers it on every state in which `State.fault` holds one (R161, R164). Safe: the hardware
halts for good there. -/
inductive Fault where
  /-- Raised by the meaning of `absent`, from decoding a key without an entry (R155). Safe. -/
  | unknownOpcode (addr : Word) (bytes : List Byte)
  /-- Raised by the meaning of `prefix_CB`, from decoding a prefix byte at 0xFFFF (R156). Safe. -/
  | truncatedPrefix (addr : Word) (bytes : List Byte)
  /-- Raised by the meanings of the forms outside R76, and by `coreStep` for a name no constructor stands for (R157). Safe. -/
  | unimplementedInstruction (addr : Word) (name : FormName)
  deriving DecidableEq, Repr

/-- Why a step has no next state and no fault. No meaning of an instruction answers one of these. -/
inductive Refusal where
  /-- An instruction without a meaning: no arm of `exec` answers it any more. Safe. -/
  | notModelled (mnemonic : String)
  /-- Raised by `coreStep`: the table entry just decoded is ill formed, and R36 gives such a table no meaning. Safe. -/
  | illFormedTable
  /-- Raised by `coreStep` if a fetch gave too few bytes; no fetch does. Safe. -/
  | shortFetch
  /-- Raised by `step`: the gate is suspended and the host has no further move (R165, R180: stuck at that boundary). Safe. -/
  | awaitingCommand
  /-- Raised by `step`: the host has stopped the run (R165). Safe. -/
  | runEnded
  /-- Raised by `step`: a request for a source outside [0, N_IRQ), a move the host does not have (R167). Safe. -/
  | noSuchMove
  deriving DecidableEq, Repr

/-- The Bus memory: (address, byte) pairs, addresses strictly rising, no byte equal to `Memory.unlisted`. -/
abbrev Memory := List Host.Cell

/-- What an address that is not listed reads as. R198 leaves such bytes to the launch; DESIGN CHOICE 0x00, unsafe (assumption
log 4). -/
def Memory.unlisted : Byte := 0

/-- The state of the CORE. -/
structure State where
  /-- A to L and SP (R22, R24). -/
  regs : Regs
  /-- PC (R27). -/
  pc : Word
  /-- Z, N, H, C (R30). -/
  flags : Flags
  /-- The Bus memory (R43). -/
  mem : Memory
  /-- IME (R38). -/
  ime : Bool
  /-- The interrupt sources, highest priority first (R38). -/
  irq : List IrqSource
  /-- BP: slot k of the display is element k - 1, `none` is Removed (R40). -/
  bp : List (Option Word)
  /-- `stepping` (R40). -/
  stepping : Bool
  /-- `mode` (R40). -/
  mode : Mode
  /-- `fault` (R41). -/
  fault : Option Fault
  /-- OPCODE_TABLE and PREFIX_BYTE (R11, R191): configuration that no step writes. -/
  params : Params
  /-- The gate waits for a command at this boundary (R180). -/
  suspended : Bool
  /-- The model's own: length and flag code of the descriptor in hand, which `coreStep` puts here for `exec` (R78's `d`). -/
  entry : Entry
  /-- The model's own: the host's moves still to come, oldest first (R189). -/
  host : List HostMove
  /-- The model's own: the host has stopped the run (R165). -/
  ended : Bool
  /-- The model's own: what the debug prompt has answered, oldest first (R188). -/
  replies : List Reply
  deriving DecidableEq, Repr

/-- The outcome of a step or a meaning. -/
abbrev Res := Host.Outcome State Fault Refusal

/-- The registers at reset. R194: launch values; DESIGN CHOICE 0, unsafe (assumption log 2). -/
def Regs.reset : Regs := ⟨0, 0, 0, 0, 0, 0, 0, 0⟩

/-- The flags at reset. R194: launch values; DESIGN CHOICE false, unsafe (assumption log 2). -/
def Flags.reset : Flags := ⟨false, false, false, false⟩

/-- The interrupt sources at reset: the reference vectors (R166); IE and IF are launch values (R195), DESIGN CHOICE false, unsafe
(assumption log 3). -/
def IrqSource.reset : List IrqSource := Config.irqVectors.map fun v => ⟨false, false, v⟩

/-- The state after reset (R190 to R197): PC 0, BP empty, no fault, DEBUG_MODE false (assumption log 5), an empty SEED (log 6),
the launch values of logs 2 to 4, the reference parameters (log 1). -/
def State.reset : State where
  regs := Regs.reset
  pc := 0
  flags := Flags.reset
  mem := []
  ime := false
  irq := IrqSource.reset
  bp := []
  stepping := false
  mode := .running
  fault := none
  params := Config.reference
  suspended := false
  entry := ⟨1, Config.codeNone⟩
  host := []
  ended := false
  replies := []

end Sys2Proof.Machine
end

