-- ==== Sys2Proof/Machine/Flags.lean ====
section
/-! DEFINITION. The flag-effect codes (spec 10_state R32 to R35), the condition codes (43_control R140) and every function that
computes a result with its flags (40_arith R86, R87, R91, R98 to R103; 41_logic_bit_rotate R104 to R118). Values are computed on
unbounded integers and masked at the end (R13). -/
namespace Sys2Proof.Machine

/-- The computed flags of an outcome: a value where the family computes the flag, `none` where it does not. -/
structure Computed where
  z : Option Bool
  n : Option Bool
  h : Option Bool
  c : Option Bool
  deriving DecidableEq, Repr

/-- The outcome NoResult (R33). -/
def Computed.noResult : Computed := ⟨none, none, none, none⟩

/-- R32 for one flag: forced, kept, or the computed value if there is one. -/
def FlagSym.apply (s : FlagSym) (computed : Option Bool) (old : Bool) : Bool :=
  match s with
  | .force0 => false
  | .force1 => true
  | .keep => old
  | .computed => computed.getD old

/-- ApplyFlags (R32): all four flags together (R34). -/
def applyFlags (code : FlagCode) (o : Computed) (f : Flags) : Flags where
  z := FlagSym.apply code.z o.z f.z
  n := FlagSym.apply code.n o.n f.n
  h := FlagSym.apply code.h o.h f.h
  c := FlagSym.apply code.c o.c f.c

/-- check_condition (R140). -/
def checkCondition (cc : Cond) (f : Flags) : Bool :=
  match cc with
  | .NZ => !f.z
  | .Z => f.z
  | .NC => !f.c
  | .C => f.c

/-- An 8-bit result and its outcome. -/
structure Alu8 where
  res : Byte
  out : Computed
  deriving DecidableEq, Repr

/-- A 16-bit result and its outcome. -/
structure Alu16 where
  res : Word
  out : Computed
  deriving DecidableEq, Repr

/-- Bits 3..0 of a byte. -/
def lowNibble (v : Byte) : Nat := v.toNat % 16

/-- Add8 (R86). -/
def add8 (a b : Byte) : Alu8 :=
  let sum := a.toNat + b.toNat
  let res := BitVec.ofNat 8 sum
  ⟨res, ⟨some (res == 0), none, some (decide (lowNibble a + lowNibble b > 0x0F)), some (decide (sum > 0xFF))⟩⟩

/-- Sub8 (R87). -/
def sub8 (a b : Byte) : Alu8 :=
  let diff : Int := a.toNat - b.toNat
  let res := BitVec.ofInt 8 diff
  ⟨res, ⟨some (res == 0), none, some (decide (lowNibble a < lowNibble b)), some (decide (a.toNat < b.toNat))⟩⟩

/-- The sum of ADD HL,rr (R91): H from bit 11, C from bit 15. -/
def add16 (a b : Word) : Alu16 :=
  let sum := a.toNat + b.toNat
  let res := BitVec.ofNat 16 sum
  ⟨res, ⟨some (res == 0), none, some (decide (a.toNat % 0x1000 + b.toNat % 0x1000 > 0x0FFF)),
    some (decide (sum > 0xFFFF))⟩⟩

/-- INC on a byte (R98). -/
def inc8 (v : Byte) : Alu8 :=
  let res := BitVec.ofNat 8 (v.toNat + 1)
  ⟨res, ⟨some (res == 0), none, some (lowNibble v == 0x0F), none⟩⟩

/-- DEC on a byte (R101). -/
def dec8 (v : Byte) : Alu8 :=
  let res := BitVec.ofInt 8 ((v.toNat : Int) - 1)
  ⟨res, ⟨some (res == 0), none, some (lowNibble v == 0), none⟩⟩

/-- INC on a 16-bit register (R100). -/
def inc16 (v : Word) : Alu16 :=
  let res := BitVec.ofNat 16 (v.toNat + 1)
  ⟨res, ⟨some (res == 0), none, none, none⟩⟩

/-- DEC on a 16-bit register (R103). -/
def dec16 (v : Word) : Alu16 :=
  let res := BitVec.ofInt 16 ((v.toNat : Int) - 1)
  ⟨res, ⟨some (res == 0), none, none, none⟩⟩

/-- A bitwise result, which computes Z alone (R104 to R112). -/
def logic8 (res : Byte) : Alu8 := ⟨res, ⟨some (res == 0), none, none, none⟩⟩

/-- The masked bit of BIT (R113), which computes Z alone. -/
def bit8 (b : Oct) (v : Byte) : Alu8 := logic8 (v &&& (1 <<< b.val))

/-- RL9 (R115): the old C comes into bit 0, bit 7 goes into C. -/
def rl9 (v : Byte) (cIn : Bool) : Alu8 :=
  let res := BitVec.ofNat 8 (v.toNat * 2 + cIn.toNat)
  ⟨res, ⟨some (res == 0), none, none, some (v.getLsbD 7)⟩⟩

end Sys2Proof.Machine
end

