-- ==== Sys2Proof/Machine/Ops.lean ====
section
/-! DEFINITION. The named operations over memory, registers, stack, flags and PC (spec 10_state, 20_memory), raising a fault
(60_exceptions R160, R161), taking an interrupt (R168, R169), and the pass from one boundary to the next. The return from an
interrupt is RET's pop (R173): `State.pop16` and `State.jump`. -/
namespace Sys2Proof.Machine

/-! ### Memory -/

/-- The byte at an address. -/
def Memory.read (a : Nat) : Memory → Byte
  | [] => Memory.unlisted
  | (k, v) :: m => if k = a then v else Memory.read a m

/-- The memory without an entry for an address. -/
def Memory.erase (a : Nat) (m : Memory) : Memory := m.filter fun c => c.1 != a

/-- Puts an entry in front of the first larger address. -/
def Memory.insert (a : Nat) (v : Byte) : Memory → Memory
  | [] => [(a, v)]
  | (k, w) :: m => if a < k then (a, v) :: (k, w) :: m else (k, w) :: Memory.insert a v m

/-- Writes a byte; writing what an unlisted address reads as removes the entry. -/
def Memory.write (a : Nat) (v : Byte) (m : Memory) : Memory :=
  if v = Memory.unlisted then m.erase a else (m.erase a).insert a v

/-- The canonical form from an address on: addresses strictly rising, inside the 64 KiB space, no unlisted byte. -/
def Memory.wfFrom (low : Nat) : Memory → Bool
  | [] => true
  | (k, v) :: m => low ≤ k && k < 65536 && v != Memory.unlisted && Memory.wfFrom (k + 1) m

/-- The canonical form. -/
def Memory.wf (m : Memory) : Bool := m.wfFrom 0

/-- `load(offset, bytes)` of the Bus (R44); addresses are taken modulo 65536 (R46). -/
def Memory.load (offset : Word) : List Byte → Memory → Memory
  | [], m => m
  | b :: bs, m => Memory.load (offset + 1) bs (m.write offset.toNat b)

/-- `MemRead(a, 1)` (R17, R45). -/
def State.readByte (s : State) (a : Word) : Byte := s.mem.read a.toNat

/-- `MemWrite(a, 1, v)` (R17, R45). -/
def State.writeByte (s : State) (a : Word) (v : Byte) : State := { s with mem := s.mem.write a.toNat v }

/-- `MemRead(a, 2)` (R17, R49). -/
def State.readWord (s : State) (a : Word) : Word := ofBytes (s.readByte (a + 1)) (s.readByte a)

/-- `MemWrite(a, 2, v)` (R17, R49): low byte at a, then high byte at u16(a + 1). -/
def State.writeWord (s : State) (a : Word) (v : Word) : State :=
  (s.writeByte a (loByte v)).writeByte (a + 1) (hiByte v)

/-! ### Registers -/

/-- `x[r]` for an 8-bit register (R16, R22). -/
def State.reg (s : State) : Reg8 → Byte
  | .A => s.regs.a
  | .B => s.regs.b
  | .C => s.regs.c
  | .D => s.regs.d
  | .E => s.regs.e
  | .H => s.regs.h
  | .L => s.regs.l

/-- `x[r] <- v` for an 8-bit register. -/
def State.setReg (s : State) (r : Reg8) (v : Byte) : State :=
  match r with
  | .A => { s with regs := { s.regs with a := v } }
  | .B => { s with regs := { s.regs with b := v } }
  | .C => { s with regs := { s.regs with c := v } }
  | .D => { s with regs := { s.regs with d := v } }
  | .E => { s with regs := { s.regs with e := v } }
  | .H => { s with regs := { s.regs with h := v } }
  | .L => { s with regs := { s.regs with l := v } }

/-- `x[rr]` for a 16-bit register: the composites are views of their halves (R23), SP is its own (R24). -/
def State.reg16 (s : State) : Reg16 → Word
  | .BC => ofBytes s.regs.b s.regs.c
  | .DE => ofBytes s.regs.d s.regs.e
  | .HL => ofBytes s.regs.h s.regs.l
  | .SP => s.regs.sp

/-- `x[rr] <- v` for a 16-bit register (R23, R24). -/
def State.setReg16 (s : State) (r : Reg16) (v : Word) : State :=
  match r with
  | .BC => { s with regs := { s.regs with b := hiByte v, c := loByte v } }
  | .DE => { s with regs := { s.regs with d := hiByte v, e := loByte v } }
  | .HL => { s with regs := { s.regs with h := hiByte v, l := loByte v } }
  | .SP => { s with regs := { s.regs with sp := v } }

/-- `IME <- v` (R39). -/
def State.setIme (s : State) (v : Bool) : State := { s with ime := v }

/-! ### Stack -/

/-- Push16 (R57). -/
def State.push16 (s : State) (v : Word) : State :=
  let s1 := s.setReg16 .SP (s.reg16 .SP - 1)
  let s2 := s1.writeByte (s1.reg16 .SP) (hiByte v)
  let s3 := s2.setReg16 .SP (s2.reg16 .SP - 1)
  s3.writeByte (s3.reg16 .SP) (loByte v)

/-- The value Pop16 returns (R58). -/
def State.top16 (s : State) : Word := s.readWord (s.reg16 .SP)

/-- The state Pop16 leaves: SP two higher (R58). -/
def State.pop16 (s : State) : State := s.setReg16 .SP (s.reg16 .SP + 2)

/-! ### The descriptor in hand and the end of an instruction -/

/-- Takes a descriptor's length and flag code in hand (R78). -/
def State.hold (s : State) (e : Entry) : State := { s with entry := e }

/-- The default next PC, `u16(cur_pc + len)` (R28). -/
def State.nextPc (s : State) : Word := s.pc + BitVec.ofNat 16 s.entry.len

/-- Applies the flag code to an outcome and commits a given next PC (R29, R32, R78). -/
def State.jump (s : State) (o : Computed) (target : Word) : State :=
  { s with flags := applyFlags s.entry.flags o s.flags, pc := target }

/-- Applies the flag code to an outcome and commits the default next PC. -/
def State.retire (s : State) (o : Computed) : State := s.jump o s.nextPc

/-! ### Faults and interrupts -/

/-- `raise` (R18, R160, R161): the fault is recorded, nothing else changes. -/
def State.raise (s : State) (f : Fault) : State := { s with fault := some f }

/-- The first source, in priority order, that is pending and enabled (R168, R170). -/
def firstPending : List IrqSource → Option Nat
  | [] => none
  | src :: rest => if src.pending && src.enable then some 0 else (firstPending rest).map (· + 1)

/-- Sets IF[i] (R38); nothing for an index outside the list. -/
def setPending (i : Nat) (v : Bool) (l : List IrqSource) : List IrqSource :=
  l.modify i fun src => { src with pending := v }

/-- VEC[i] (R38); `vector` is only ever called inside the list. -/
def State.vec (s : State) (i : Nat) : Word := ((s.irq[i]?).map IrqSource.vec).getD 0

/-- `vector(i)` (R169): taking an interrupt. -/
def State.vector (s : State) (i : Nat) : State :=
  { ({ s with irq := setPending i false s.irq, ime := false }).push16 s.pc with pc := s.vec i }

/-- `post_instruction_check()` (R168). -/
def State.postInstructionCheck (s : State) : State :=
  if s.ime then
    match firstPending s.irq with
    | some i => s.vector i
    | none => s
  else s

/-- `request(i)` (R167); nothing for an index outside [0, N_IRQ). -/
def State.request (s : State) (i : Nat) : Option State :=
  if i < s.irq.length then some { s with irq := setPending i true s.irq } else none

end Sys2Proof.Machine
end

