-- ==== Sys2Proof/Machine/Debug.lean ====
section
/-! DEFINITION. The DebugController: the gate (spec 60_exceptions R179, R181), the command grammar (R182) and the commands
(R180, R183 to R188). -/
namespace Sys2Proof.Machine

/-! ### The gate -/

/-- PC is in BP: some slot holds it and is not Removed (R179). -/
def State.atBreakpoint (s : State) : Bool := s.bp.contains (some s.pc)

/-- `gate()` up to its wait (R179): the CORE is suspended afterwards exactly if `stepping` is then true. -/
def State.gate (s : State) : State :=
  if s.atBreakpoint then { s with mode := .pausedAtBreakpoint, stepping := true, suspended := true }
  else if s.stepping then { s with mode := .steppingOneInstruction, suspended := true }
  else s

/-! ### The command grammar (R182) -/

/-- A command of the closed set. -/
inductive Command where
  | stepOne
  | resume
  | setBreak (addr : Word)
  | deleteSlot (index : Nat)
  deriving DecidableEq, Repr

/-- White space that R182 ignores at the ends of a command (assumption log 14). -/
def isSpace (c : Char) : Bool :=
  c == ' ' || c == '\t' || c == '\n' || c == '\r'

/-- The line without white space at its ends. -/
def trimLine (line : List Char) : List Char :=
  ((line.dropWhile isSpace).reverse.dropWhile isSpace).reverse

/-- The tokens of a line: what stands between one or more spaces. -/
def lineTokens (line : List Char) : List (List Char) :=
  (splitAt ' ' (trimLine line)).filter fun t => !t.isEmpty

/-- `addr`: hexadecimal after 0x, or decimal, at most 0xFFFF. -/
def parseAddr (t : List Char) : Option Word :=
  let v :=
    match t with
    | '0' :: 'x' :: ds => parseDigits hexDigit 16 ds
    | ds => parseDigits decDigit 10 ds
  match v with
  | some a => if a ≤ 0xFFFF then some (BitVec.ofNat 16 a) else none
  | none => none

/-- `index`: decimal, at least 1. -/
def parseIndex (t : List Char) : Option Nat :=
  match parseDigits decDigit 10 t with
  | some k => if 1 ≤ k then some k else none
  | none => none

/-- `command`; nothing for what the grammar rejects. -/
def parseCommand (line : List Char) : Option Command :=
  match lineTokens line with
  | [] => some .stepOne
  | [kw] =>
    if kw = "step".toList then some .stepOne
    else if kw = "continue".toList ∨ kw = "c".toList then some .resume
    else none
  | [kw, arg] =>
    if kw = "break".toList ∨ kw = "b".toList then (parseAddr arg).map .setBreak
    else if kw = "delete".toList ∨ kw = "d".toList then (parseIndex arg).map .deleteSlot
    else none
  | _ => none

/-! ### The commands -/

/-- Appends a reply of the prompt (R188). -/
def State.reply (s : State) (r : Reply) : State := { s with replies := s.replies ++ [r] }

/-- `step` or empty input (R183): resumes, `stepping` stays as it is. -/
def State.cmdStep (s : State) : State := { s with suspended := false }.reply .ack

/-- `continue` (R184). -/
def State.cmdContinue (s : State) : State :=
  { s with suspended := false, stepping := false, mode := .running }.reply .ack

/-- `break` (R185): a new slot at the end, and its index. -/
def State.cmdBreak (s : State) (addr : Word) : State :=
  { s with bp := s.bp ++ [some addr] }.reply (.index (s.bp.length + 1))

/-- The slot of a display index, counting from 1 (R40); nothing for an index beyond the list. -/
def State.slot (s : State) (index : Nat) : Option (Option Word) :=
  if index = 0 then none else s.bp[index - 1]?

/-- `delete` (R186): slot `index` becomes Removed; an index of no live slot is InvalidDebugCommand. -/
def State.cmdDelete (s : State) (index : Nat) : State :=
  match s.slot index with
  | some (some _) => { s with bp := s.bp.set (index - 1) none }.reply .ack
  | some none => s.reply .invalidDebugCommand
  | none => s.reply .invalidDebugCommand

/-- One command of `await_command()` (R180, R187). The CORE is still suspended afterwards exactly if it did not resume. -/
def State.command (s : State) (line : List Char) : State :=
  match parseCommand line with
  | some .stepOne => s.cmdStep
  | some .resume => s.cmdContinue
  | some (.setBreak a) => s.cmdBreak a
  | some (.deleteSlot k) => s.cmdDelete k
  | none => s.reply .invalidDebugCommand

end Sys2Proof.Machine
end

