-- ==== Sys2Proof/Machine/Operands.lean ====
section
/-! DEFINITION. Operand forms: the 8-bit sources and destinations, the effective addresses (spec 42_load_store R119) and the signed
offset of the relative jumps (00_scope R15). -/
namespace Sys2Proof.Machine

/-- The source of an 8-bit form: a register, the byte at HL, or an immediate (40_arith, the operand table). -/
inductive Operand8 where
  | loc (x : Loc8)
  | imm (n : Byte)
  deriving DecidableEq, Repr

/-- The byte in a register or at HL. -/
def State.loc8 (s : State) : Loc8 → Byte
  | .reg r => s.reg r
  | .indHL => s.readByte (s.reg16 .HL)

/-- Writes a register or the byte at HL. -/
def State.setLoc8 (s : State) (x : Loc8) (v : Byte) : State :=
  match x with
  | .reg r => s.setReg r v
  | .indHL => s.writeByte (s.reg16 .HL) v

/-- The operand value `s` of an ALU8 form. -/
def State.operand8 (s : State) : Operand8 → Byte
  | .loc x => s.loc8 x
  | .imm n => n

/-- The addresses of the memory operands (R119). -/
inductive Ea where
  | ind (p : Pair)
  | indHLinc
  | indHLdec
  | indC
  | indA16 (nn : Word)
  | indA8 (n : Byte)
  deriving DecidableEq, Repr

/-- `0xFF00 + n` (R119); it never wraps. -/
def ioAddr (n : Byte) : Word := 0xFF00 + n.setWidth 16

/-- The effective address (R119). -/
def State.ea (s : State) : Ea → Word
  | .ind p => s.reg16 p.toReg16
  | .indHLinc => s.reg16 .HL
  | .indHLdec => s.reg16 .HL
  | .indC => ioAddr (s.reg .C)
  | .indA16 nn => nn
  | .indA8 n => ioAddr n

/-- The base register change after the access (R119). -/
def State.afterAccess (s : State) : Ea → State
  | .indHLinc => s.setReg16 .HL (s.reg16 .HL + 1)
  | .indHLdec => s.setReg16 .HL (s.reg16 .HL - 1)
  | .ind _ => s
  | .indC => s
  | .indA16 _ => s
  | .indA8 _ => s

/-- `sext_16(n)` as a 16-bit value, to be added modulo 65536 (R15, R70). -/
def sext16 (n : Byte) : Word := if n.toNat < 128 then n.setWidth 16 else BitVec.ofInt 16 ((n.toNat : Int) - 256)

end Sys2Proof.Machine
end

