-- ==== Sys2Proof/Machine/Arith.lean ====
section
/-! DEFINITION. Add, subtract, compare, increment, decrement (spec 40_arith R84 to R103). -/
namespace Sys2Proof.Machine

/-- ADD A,x (R88 to R90). -/
def aluAdd (x : Operand8) (s : State) : Res :=
  let r := add8 (s.reg .A) (s.operand8 x)
  .next ((s.setReg .A r.res).retire r.out)

/-- ADD HL,rr (R91). -/
def addHL (rr : Reg16) (s : State) : Res :=
  let r := add16 (s.reg16 .HL) (s.reg16 rr)
  .next ((s.setReg16 .HL r.res).retire r.out)

/-- SUB x (R92 to R94). -/
def aluSub (x : Operand8) (s : State) : Res :=
  let r := sub8 (s.reg .A) (s.operand8 x)
  .next ((s.setReg .A r.res).retire r.out)

/-- CP x (R95 to R97): SUB without the write. -/
def aluCp (x : Operand8) (s : State) : Res :=
  .next (s.retire (sub8 (s.reg .A) (s.operand8 x)).out)

/-- INC r and INC (HL) (R98, R99). -/
def incByte (x : Loc8) (s : State) : Res :=
  let r := inc8 (s.loc8 x)
  .next ((s.setLoc8 x r.res).retire r.out)

/-- DEC r and DEC (HL) (R101, R102). -/
def decByte (x : Loc8) (s : State) : Res :=
  let r := dec8 (s.loc8 x)
  .next ((s.setLoc8 x r.res).retire r.out)

/-- INC rr (R100). -/
def incWord (rr : Reg16) (s : State) : Res :=
  let r := inc16 (s.reg16 rr)
  .next ((s.setReg16 rr r.res).retire r.out)

/-- DEC rr (R103). -/
def decWord (rr : Reg16) (s : State) : Res :=
  let r := dec16 (s.reg16 rr)
  .next ((s.setReg16 rr r.res).retire r.out)

/-- INC BC (R100). -/
def execInc_BC (s : State) : Res :=
  incWord .BC s

/-- INC B (R98). -/
def execInc_B (s : State) : Res :=
  incByte (.reg .B) s

/-- DEC B (R101). -/
def execDec_B (s : State) : Res :=
  decByte (.reg .B) s

/-- ADD HL,BC (R91). -/
def execAdd_HL_BC (s : State) : Res :=
  addHL .BC s

/-- DEC BC (R103). -/
def execDec_BC (s : State) : Res :=
  decWord .BC s

/-- INC C (R98). -/
def execInc_C (s : State) : Res :=
  incByte (.reg .C) s

/-- DEC C (R101). -/
def execDec_C (s : State) : Res :=
  decByte (.reg .C) s

/-- INC DE (R100). -/
def execInc_DE (s : State) : Res :=
  incWord .DE s

/-- INC D (R98). -/
def execInc_D (s : State) : Res :=
  incByte (.reg .D) s

/-- DEC D (R101). -/
def execDec_D (s : State) : Res :=
  decByte (.reg .D) s

/-- ADD HL,DE (R91). -/
def execAdd_HL_DE (s : State) : Res :=
  addHL .DE s

/-- DEC DE (R103). -/
def execDec_DE (s : State) : Res :=
  decWord .DE s

/-- INC E (R98). -/
def execInc_E (s : State) : Res :=
  incByte (.reg .E) s

/-- DEC E (R101). -/
def execDec_E (s : State) : Res :=
  decByte (.reg .E) s

/-- INC HL (R100). -/
def execInc_HL (s : State) : Res :=
  incWord .HL s

/-- INC H (R98). -/
def execInc_H (s : State) : Res :=
  incByte (.reg .H) s

/-- DEC H (R101). -/
def execDec_H (s : State) : Res :=
  decByte (.reg .H) s

/-- ADD HL,HL (R91). -/
def execAdd_HL_HL (s : State) : Res :=
  addHL .HL s

/-- DEC HL (R103). -/
def execDec_HL (s : State) : Res :=
  decWord .HL s

/-- INC L (R98). -/
def execInc_L (s : State) : Res :=
  incByte (.reg .L) s

/-- DEC L (R101). -/
def execDec_L (s : State) : Res :=
  decByte (.reg .L) s

/-- INC SP (R100). -/
def execInc_SP (s : State) : Res :=
  incWord .SP s

/-- INC (HL) (R99). -/
def execInc_indHL (s : State) : Res :=
  incByte .indHL s

/-- DEC (HL) (R102). -/
def execDec_indHL (s : State) : Res :=
  decByte .indHL s

/-- ADD HL,SP (R91). -/
def execAdd_HL_SP (s : State) : Res :=
  addHL .SP s

/-- DEC SP (R103). -/
def execDec_SP (s : State) : Res :=
  decWord .SP s

/-- INC A (R98). -/
def execInc_A (s : State) : Res :=
  incByte (.reg .A) s

/-- DEC A (R101). -/
def execDec_A (s : State) : Res :=
  decByte (.reg .A) s

/-- ADD A,B (R88). -/
def execAdd_A_B (s : State) : Res :=
  aluAdd (.loc (.reg .B)) s

/-- ADD A,C (R88). -/
def execAdd_A_C (s : State) : Res :=
  aluAdd (.loc (.reg .C)) s

/-- ADD A,D (R88). -/
def execAdd_A_D (s : State) : Res :=
  aluAdd (.loc (.reg .D)) s

/-- ADD A,E (R88). -/
def execAdd_A_E (s : State) : Res :=
  aluAdd (.loc (.reg .E)) s

/-- ADD A,H (R88). -/
def execAdd_A_H (s : State) : Res :=
  aluAdd (.loc (.reg .H)) s

/-- ADD A,L (R88). -/
def execAdd_A_L (s : State) : Res :=
  aluAdd (.loc (.reg .L)) s

/-- ADD A,(HL) (R89). -/
def execAdd_A_indHL (s : State) : Res :=
  aluAdd (.loc .indHL) s

/-- ADD A,A (R88). -/
def execAdd_A_A (s : State) : Res :=
  aluAdd (.loc (.reg .A)) s

/-- SUB B (R92). -/
def execSub_B (s : State) : Res :=
  aluSub (.loc (.reg .B)) s

/-- SUB C (R92). -/
def execSub_C (s : State) : Res :=
  aluSub (.loc (.reg .C)) s

/-- SUB D (R92). -/
def execSub_D (s : State) : Res :=
  aluSub (.loc (.reg .D)) s

/-- SUB E (R92). -/
def execSub_E (s : State) : Res :=
  aluSub (.loc (.reg .E)) s

/-- SUB H (R92). -/
def execSub_H (s : State) : Res :=
  aluSub (.loc (.reg .H)) s

/-- SUB L (R92). -/
def execSub_L (s : State) : Res :=
  aluSub (.loc (.reg .L)) s

/-- SUB (HL) (R93). -/
def execSub_indHL (s : State) : Res :=
  aluSub (.loc .indHL) s

/-- SUB A (R92). -/
def execSub_A (s : State) : Res :=
  aluSub (.loc (.reg .A)) s

/-- CP B (R95). -/
def execCp_B (s : State) : Res :=
  aluCp (.loc (.reg .B)) s

/-- CP C (R95). -/
def execCp_C (s : State) : Res :=
  aluCp (.loc (.reg .C)) s

/-- CP D (R95). -/
def execCp_D (s : State) : Res :=
  aluCp (.loc (.reg .D)) s

/-- CP E (R95). -/
def execCp_E (s : State) : Res :=
  aluCp (.loc (.reg .E)) s

/-- CP H (R95). -/
def execCp_H (s : State) : Res :=
  aluCp (.loc (.reg .H)) s

/-- CP L (R95). -/
def execCp_L (s : State) : Res :=
  aluCp (.loc (.reg .L)) s

/-- CP (HL) (R96). -/
def execCp_indHL (s : State) : Res :=
  aluCp (.loc .indHL) s

/-- CP A (R95). -/
def execCp_A (s : State) : Res :=
  aluCp (.loc (.reg .A)) s

/-- ADD A,d8 (R90). -/
def execAdd_A_d8 (n : Byte) (s : State) : Res :=
  aluAdd (.imm n) s

/-- SUB d8 (R94). -/
def execSub_d8 (n : Byte) (s : State) : Res :=
  aluSub (.imm n) s

/-- CP d8 (R97). -/
def execCp_d8 (n : Byte) (s : State) : Res :=
  aluCp (.imm n) s

end Sys2Proof.Machine
end

