-- ==== Sys2Proof/Machine/Control.lean ====
section
/-! DEFINITION. Relative jumps, calls, returns, push and pop (spec 43_control R140 to R149). None has a numeric result (R33). -/
namespace Sys2Proof.Machine

/-- Runs an instruction if the condition holds (R140), else only moves past it (R143, R145, R147). -/
def ifCond (cc : Cond) (taken : State → Res) (s : State) : Res :=
  if checkCondition cc s.flags then taken s else .next (s.retire .noResult)

/-- JR (R142): relative to the address of the next instruction (R27; assumption log 18). -/
def jumpRelative (n : Byte) (s : State) : Res :=
  .next (s.jump .noResult (s.nextPc + sext16 n))

/-- CALL (R144): pushes the address of the following instruction. -/
def callTo (nn : Word) (s : State) : Res :=
  .next ((s.push16 s.nextPc).jump .noResult nn)

/-- RET (R146). -/
def returnFromStack (s : State) : Res :=
  .next (s.pop16.jump .noResult s.top16)

/-- PUSH qq (R148). -/
def pushPair (p : Pair) (s : State) : Res :=
  .next ((s.push16 (s.reg16 p.toReg16)).retire .noResult)

/-- POP qq (R149). -/
def popPair (p : Pair) (s : State) : Res :=
  .next ((s.pop16.setReg16 p.toReg16 s.top16).retire .noResult)

/-- JR r8 (R142). -/
def execJr_r8 (n : Byte) (s : State) : Res :=
  jumpRelative n s

/-- JR NZ,r8 (R143). -/
def execJr_NZ_r8 (n : Byte) (s : State) : Res :=
  ifCond .NZ (jumpRelative n) s

/-- JR Z,r8 (R143). -/
def execJr_Z_r8 (n : Byte) (s : State) : Res :=
  ifCond .Z (jumpRelative n) s

/-- JR NC,r8 (R143). -/
def execJr_NC_r8 (n : Byte) (s : State) : Res :=
  ifCond .NC (jumpRelative n) s

/-- JR C,r8 (R143). -/
def execJr_C_r8 (n : Byte) (s : State) : Res :=
  ifCond .C (jumpRelative n) s

/-- RET NZ (R147). -/
def execRet_NZ (s : State) : Res :=
  ifCond .NZ returnFromStack s

/-- POP BC (R149). -/
def execPop_BC (s : State) : Res :=
  popPair .BC s

/-- CALL NZ,a16 (R145). -/
def execCall_NZ_a16 (nn : Word) (s : State) : Res :=
  ifCond .NZ (callTo nn) s

/-- PUSH BC (R148). -/
def execPush_BC (s : State) : Res :=
  pushPair .BC s

/-- RET Z (R147). -/
def execRet_Z (s : State) : Res :=
  ifCond .Z returnFromStack s

/-- RET (R146). -/
def execRet (s : State) : Res :=
  returnFromStack s

/-- CALL Z,a16 (R145). -/
def execCall_Z_a16 (nn : Word) (s : State) : Res :=
  ifCond .Z (callTo nn) s

/-- CALL a16 (R144). -/
def execCall_a16 (nn : Word) (s : State) : Res :=
  callTo nn s

/-- RET NC (R147). -/
def execRet_NC (s : State) : Res :=
  ifCond .NC returnFromStack s

/-- POP DE (R149). -/
def execPop_DE (s : State) : Res :=
  popPair .DE s

/-- CALL NC,a16 (R145). -/
def execCall_NC_a16 (nn : Word) (s : State) : Res :=
  ifCond .NC (callTo nn) s

/-- PUSH DE (R148). -/
def execPush_DE (s : State) : Res :=
  pushPair .DE s

/-- RET C (R147). -/
def execRet_C (s : State) : Res :=
  ifCond .C returnFromStack s

/-- CALL C,a16 (R145). -/
def execCall_C_a16 (nn : Word) (s : State) : Res :=
  ifCond .C (callTo nn) s

/-- POP HL (R149). -/
def execPop_HL (s : State) : Res :=
  popPair .HL s

/-- PUSH HL (R148). -/
def execPush_HL (s : State) : Res :=
  pushPair .HL s

end Sys2Proof.Machine
end

