-- ==== Sys2Proof/Machine/Load.lean ====
section
/-! DEFINITION. Loads and stores (spec 42_load_store R119 to R139). None has a numeric result (R33). -/
namespace Sys2Proof.Machine

/-- A load of an 8-bit register from a value in hand (R120, R121). -/
def loadByte (d : Reg8) (v : Byte) (s : State) : Res :=
  .next ((s.setReg d v).retire .noResult)

/-- A load of a 16-bit register from a value in hand (R122, R123). -/
def loadWord (d : Reg16) (v : Word) (s : State) : Res :=
  .next ((s.setReg16 d v).retire .noResult)

/-- A load of an 8-bit register from memory, then the base register change (R119, R124, R129, R130, R132, R134, R137, R139). -/
def loadFrom (d : Reg8) (a : Ea) (s : State) : Res :=
  .next (((s.setReg d (s.readByte (s.ea a))).afterAccess a).retire .noResult)

/-- A store of a byte to memory, then the base register change (R119, R125 to R128, R131, R133, R136, R138). -/
def storeTo (a : Ea) (v : Byte) (s : State) : Res :=
  .next (((s.writeByte (s.ea a) v).afterAccess a).retire .noResult)

/-- A store of a 16-bit value, low byte first (R135). -/
def storeWord (a v : Word) (s : State) : Res :=
  .next ((s.writeWord a v).retire .noResult)

/-- LD BC,d16 (R122). -/
def execLd_BC_d16 (nn : Word) (s : State) : Res :=
  loadWord .BC nn s

/-- LD (BC),A (R131). -/
def execLd_indBC_A (s : State) : Res :=
  storeTo (.ind .BC) (s.reg .A) s

/-- LD B,d8 (R121). -/
def execLd_B_d8 (n : Byte) (s : State) : Res :=
  loadByte .B n s

/-- LD (a16),SP (R135). -/
def execLd_indA16_SP (nn : Word) (s : State) : Res :=
  storeWord nn (s.reg16 .SP) s

/-- LD A,(BC) (R132). -/
def execLd_A_indBC (s : State) : Res :=
  loadFrom .A (.ind .BC) s

/-- LD C,d8 (R121). -/
def execLd_C_d8 (n : Byte) (s : State) : Res :=
  loadByte .C n s

/-- LD DE,d16 (R122). -/
def execLd_DE_d16 (nn : Word) (s : State) : Res :=
  loadWord .DE nn s

/-- LD (DE),A (R131). -/
def execLd_indDE_A (s : State) : Res :=
  storeTo (.ind .DE) (s.reg .A) s

/-- LD D,d8 (R121). -/
def execLd_D_d8 (n : Byte) (s : State) : Res :=
  loadByte .D n s

/-- LD A,(DE) (R132). -/
def execLd_A_indDE (s : State) : Res :=
  loadFrom .A (.ind .DE) s

/-- LD E,d8 (R121). -/
def execLd_E_d8 (n : Byte) (s : State) : Res :=
  loadByte .E n s

/-- LD HL,d16 (R122). -/
def execLd_HL_d16 (nn : Word) (s : State) : Res :=
  loadWord .HL nn s

/-- LD (HL+),A (R127). -/
def execLd_indHLinc_A (s : State) : Res :=
  storeTo .indHLinc (s.reg .A) s

/-- LD H,d8 (R121). -/
def execLd_H_d8 (n : Byte) (s : State) : Res :=
  loadByte .H n s

/-- LD A,(HL+) (R129). -/
def execLd_A_indHLinc (s : State) : Res :=
  loadFrom .A .indHLinc s

/-- LD L,d8 (R121). -/
def execLd_L_d8 (n : Byte) (s : State) : Res :=
  loadByte .L n s

/-- LD SP,d16 (R122). -/
def execLd_SP_d16 (nn : Word) (s : State) : Res :=
  loadWord .SP nn s

/-- LD (HL-),A (R128). -/
def execLd_indHLdec_A (s : State) : Res :=
  storeTo .indHLdec (s.reg .A) s

/-- LD (HL),d8 (R126). -/
def execLd_indHL_d8 (n : Byte) (s : State) : Res :=
  storeTo (.ind .HL) n s

/-- LD A,(HL-) (R130). -/
def execLd_A_indHLdec (s : State) : Res :=
  loadFrom .A .indHLdec s

/-- LD A,d8 (R121). -/
def execLd_A_d8 (n : Byte) (s : State) : Res :=
  loadByte .A n s

/-- LD B,B (R120). -/
def execLd_B_B (s : State) : Res :=
  loadByte .B (s.reg .B) s

/-- LD B,C (R120). -/
def execLd_B_C (s : State) : Res :=
  loadByte .B (s.reg .C) s

/-- LD B,D (R120). -/
def execLd_B_D (s : State) : Res :=
  loadByte .B (s.reg .D) s

/-- LD B,E (R120). -/
def execLd_B_E (s : State) : Res :=
  loadByte .B (s.reg .E) s

/-- LD B,H (R120). -/
def execLd_B_H (s : State) : Res :=
  loadByte .B (s.reg .H) s

/-- LD B,L (R120). -/
def execLd_B_L (s : State) : Res :=
  loadByte .B (s.reg .L) s

/-- LD B,(HL) (R124). -/
def execLd_B_indHL (s : State) : Res :=
  loadFrom .B (.ind .HL) s

/-- LD B,A (R120). -/
def execLd_B_A (s : State) : Res :=
  loadByte .B (s.reg .A) s

/-- LD C,B (R120). -/
def execLd_C_B (s : State) : Res :=
  loadByte .C (s.reg .B) s

/-- LD C,C (R120). -/
def execLd_C_C (s : State) : Res :=
  loadByte .C (s.reg .C) s

/-- LD C,D (R120). -/
def execLd_C_D (s : State) : Res :=
  loadByte .C (s.reg .D) s

/-- LD C,E (R120). -/
def execLd_C_E (s : State) : Res :=
  loadByte .C (s.reg .E) s

/-- LD C,H (R120). -/
def execLd_C_H (s : State) : Res :=
  loadByte .C (s.reg .H) s

/-- LD C,L (R120). -/
def execLd_C_L (s : State) : Res :=
  loadByte .C (s.reg .L) s

/-- LD C,(HL) (R124). -/
def execLd_C_indHL (s : State) : Res :=
  loadFrom .C (.ind .HL) s

/-- LD C,A (R120). -/
def execLd_C_A (s : State) : Res :=
  loadByte .C (s.reg .A) s

/-- LD D,B (R120). -/
def execLd_D_B (s : State) : Res :=
  loadByte .D (s.reg .B) s

/-- LD D,C (R120). -/
def execLd_D_C (s : State) : Res :=
  loadByte .D (s.reg .C) s

/-- LD D,D (R120). -/
def execLd_D_D (s : State) : Res :=
  loadByte .D (s.reg .D) s

/-- LD D,E (R120). -/
def execLd_D_E (s : State) : Res :=
  loadByte .D (s.reg .E) s

/-- LD D,H (R120). -/
def execLd_D_H (s : State) : Res :=
  loadByte .D (s.reg .H) s

/-- LD D,L (R120). -/
def execLd_D_L (s : State) : Res :=
  loadByte .D (s.reg .L) s

/-- LD D,(HL) (R124). -/
def execLd_D_indHL (s : State) : Res :=
  loadFrom .D (.ind .HL) s

/-- LD D,A (R120). -/
def execLd_D_A (s : State) : Res :=
  loadByte .D (s.reg .A) s

/-- LD E,B (R120). -/
def execLd_E_B (s : State) : Res :=
  loadByte .E (s.reg .B) s

/-- LD E,C (R120). -/
def execLd_E_C (s : State) : Res :=
  loadByte .E (s.reg .C) s

/-- LD E,D (R120). -/
def execLd_E_D (s : State) : Res :=
  loadByte .E (s.reg .D) s

/-- LD E,E (R120). -/
def execLd_E_E (s : State) : Res :=
  loadByte .E (s.reg .E) s

/-- LD E,H (R120). -/
def execLd_E_H (s : State) : Res :=
  loadByte .E (s.reg .H) s

/-- LD E,L (R120). -/
def execLd_E_L (s : State) : Res :=
  loadByte .E (s.reg .L) s

/-- LD E,(HL) (R124). -/
def execLd_E_indHL (s : State) : Res :=
  loadFrom .E (.ind .HL) s

/-- LD E,A (R120). -/
def execLd_E_A (s : State) : Res :=
  loadByte .E (s.reg .A) s

/-- LD H,B (R120). -/
def execLd_H_B (s : State) : Res :=
  loadByte .H (s.reg .B) s

/-- LD H,C (R120). -/
def execLd_H_C (s : State) : Res :=
  loadByte .H (s.reg .C) s

/-- LD H,D (R120). -/
def execLd_H_D (s : State) : Res :=
  loadByte .H (s.reg .D) s

/-- LD H,E (R120). -/
def execLd_H_E (s : State) : Res :=
  loadByte .H (s.reg .E) s

/-- LD H,H (R120). -/
def execLd_H_H (s : State) : Res :=
  loadByte .H (s.reg .H) s

/-- LD H,L (R120). -/
def execLd_H_L (s : State) : Res :=
  loadByte .H (s.reg .L) s

/-- LD H,(HL) (R124). -/
def execLd_H_indHL (s : State) : Res :=
  loadFrom .H (.ind .HL) s

/-- LD H,A (R120). -/
def execLd_H_A (s : State) : Res :=
  loadByte .H (s.reg .A) s

/-- LD L,B (R120). -/
def execLd_L_B (s : State) : Res :=
  loadByte .L (s.reg .B) s

/-- LD L,C (R120). -/
def execLd_L_C (s : State) : Res :=
  loadByte .L (s.reg .C) s

/-- LD L,D (R120). -/
def execLd_L_D (s : State) : Res :=
  loadByte .L (s.reg .D) s

/-- LD L,E (R120). -/
def execLd_L_E (s : State) : Res :=
  loadByte .L (s.reg .E) s

/-- LD L,H (R120). -/
def execLd_L_H (s : State) : Res :=
  loadByte .L (s.reg .H) s

/-- LD L,L (R120). -/
def execLd_L_L (s : State) : Res :=
  loadByte .L (s.reg .L) s

/-- LD L,(HL) (R124). -/
def execLd_L_indHL (s : State) : Res :=
  loadFrom .L (.ind .HL) s

/-- LD L,A (R120). -/
def execLd_L_A (s : State) : Res :=
  loadByte .L (s.reg .A) s

/-- LD (HL),B (R125). -/
def execLd_indHL_B (s : State) : Res :=
  storeTo (.ind .HL) (s.reg .B) s

/-- LD (HL),C (R125). -/
def execLd_indHL_C (s : State) : Res :=
  storeTo (.ind .HL) (s.reg .C) s

/-- LD (HL),D (R125). -/
def execLd_indHL_D (s : State) : Res :=
  storeTo (.ind .HL) (s.reg .D) s

/-- LD (HL),E (R125). -/
def execLd_indHL_E (s : State) : Res :=
  storeTo (.ind .HL) (s.reg .E) s

/-- LD (HL),H (R125). -/
def execLd_indHL_H (s : State) : Res :=
  storeTo (.ind .HL) (s.reg .H) s

/-- LD (HL),L (R125). -/
def execLd_indHL_L (s : State) : Res :=
  storeTo (.ind .HL) (s.reg .L) s

/-- LD (HL),A (R125). -/
def execLd_indHL_A (s : State) : Res :=
  storeTo (.ind .HL) (s.reg .A) s

/-- LD A,B (R120). -/
def execLd_A_B (s : State) : Res :=
  loadByte .A (s.reg .B) s

/-- LD A,C (R120). -/
def execLd_A_C (s : State) : Res :=
  loadByte .A (s.reg .C) s

/-- LD A,D (R120). -/
def execLd_A_D (s : State) : Res :=
  loadByte .A (s.reg .D) s

/-- LD A,E (R120). -/
def execLd_A_E (s : State) : Res :=
  loadByte .A (s.reg .E) s

/-- LD A,H (R120). -/
def execLd_A_H (s : State) : Res :=
  loadByte .A (s.reg .H) s

/-- LD A,L (R120). -/
def execLd_A_L (s : State) : Res :=
  loadByte .A (s.reg .L) s

/-- LD A,(HL) (R124). -/
def execLd_A_indHL (s : State) : Res :=
  loadFrom .A (.ind .HL) s

/-- LD A,A (R120). -/
def execLd_A_A (s : State) : Res :=
  loadByte .A (s.reg .A) s

/-- LDH (a8),A (R138). -/
def execLdh_indA8_A (n : Byte) (s : State) : Res :=
  storeTo (.indA8 n) (s.reg .A) s

/-- LD (C),A (R136). -/
def execLd_indC_A (s : State) : Res :=
  storeTo .indC (s.reg .A) s

/-- LD (a16),A (R133). -/
def execLd_indA16_A (nn : Word) (s : State) : Res :=
  storeTo (.indA16 nn) (s.reg .A) s

/-- LDH A,(a8) (R139). -/
def execLdh_A_indA8 (n : Byte) (s : State) : Res :=
  loadFrom .A (.indA8 n) s

/-- LD A,(C) (R137). -/
def execLd_A_indC (s : State) : Res :=
  loadFrom .A .indC s

/-- LD SP,HL (R123). -/
def execLd_SP_HL (s : State) : Res :=
  loadWord .SP (s.reg16 .HL) s

/-- LD A,(a16) (R134). -/
def execLd_A_indA16 (nn : Word) (s : State) : Res :=
  loadFrom .A (.indA16 nn) s

end Sys2Proof.Machine
end

