-- ==== Sys2Proof/Machine/Logic.lean ====
section
/-! DEFINITION. And, xor, or, single-bit test and the rotate through carry (spec 41_logic_bit_rotate R104 to R118). -/
namespace Sys2Proof.Machine

/-- AND x (R104 to R106). -/
def aluAnd (x : Operand8) (s : State) : Res :=
  let r := logic8 (s.reg .A &&& s.operand8 x)
  .next ((s.setReg .A r.res).retire r.out)

/-- XOR x (R107 to R109). -/
def aluXor (x : Operand8) (s : State) : Res :=
  let r := logic8 (s.reg .A ^^^ s.operand8 x)
  .next ((s.setReg .A r.res).retire r.out)

/-- OR x (R110 to R112). -/
def aluOr (x : Operand8) (s : State) : Res :=
  let r := logic8 (s.reg .A ||| s.operand8 x)
  .next ((s.setReg .A r.res).retire r.out)

/-- BIT b,r and BIT b,(HL) (R113, R114). -/
def testBit (b : Oct) (x : Loc8) (s : State) : Res :=
  .next (s.retire (bit8 b (s.loc8 x)).out)

/-- RL r, RL (HL) and RLA (R116 to R118); what sets RLA's Z apart is its flag code. -/
def rotateLeft (x : Loc8) (s : State) : Res :=
  let r := rl9 (s.loc8 x) s.flags.c
  .next ((s.setLoc8 x r.res).retire r.out)

/-- RLA (R118). -/
def execRla (s : State) : Res :=
  rotateLeft (.reg .A) s

/-- AND B (R104). -/
def execAnd_B (s : State) : Res :=
  aluAnd (.loc (.reg .B)) s

/-- AND C (R104). -/
def execAnd_C (s : State) : Res :=
  aluAnd (.loc (.reg .C)) s

/-- AND D (R104). -/
def execAnd_D (s : State) : Res :=
  aluAnd (.loc (.reg .D)) s

/-- AND E (R104). -/
def execAnd_E (s : State) : Res :=
  aluAnd (.loc (.reg .E)) s

/-- AND H (R104). -/
def execAnd_H (s : State) : Res :=
  aluAnd (.loc (.reg .H)) s

/-- AND L (R104). -/
def execAnd_L (s : State) : Res :=
  aluAnd (.loc (.reg .L)) s

/-- AND (HL) (R105). -/
def execAnd_indHL (s : State) : Res :=
  aluAnd (.loc .indHL) s

/-- AND A (R104). -/
def execAnd_A (s : State) : Res :=
  aluAnd (.loc (.reg .A)) s

/-- XOR B (R107). -/
def execXor_B (s : State) : Res :=
  aluXor (.loc (.reg .B)) s

/-- XOR C (R107). -/
def execXor_C (s : State) : Res :=
  aluXor (.loc (.reg .C)) s

/-- XOR D (R107). -/
def execXor_D (s : State) : Res :=
  aluXor (.loc (.reg .D)) s

/-- XOR E (R107). -/
def execXor_E (s : State) : Res :=
  aluXor (.loc (.reg .E)) s

/-- XOR H (R107). -/
def execXor_H (s : State) : Res :=
  aluXor (.loc (.reg .H)) s

/-- XOR L (R107). -/
def execXor_L (s : State) : Res :=
  aluXor (.loc (.reg .L)) s

/-- XOR (HL) (R108). -/
def execXor_indHL (s : State) : Res :=
  aluXor (.loc .indHL) s

/-- XOR A (R107). -/
def execXor_A (s : State) : Res :=
  aluXor (.loc (.reg .A)) s

/-- OR B (R110). -/
def execOr_B (s : State) : Res :=
  aluOr (.loc (.reg .B)) s

/-- OR C (R110). -/
def execOr_C (s : State) : Res :=
  aluOr (.loc (.reg .C)) s

/-- OR D (R110). -/
def execOr_D (s : State) : Res :=
  aluOr (.loc (.reg .D)) s

/-- OR E (R110). -/
def execOr_E (s : State) : Res :=
  aluOr (.loc (.reg .E)) s

/-- OR H (R110). -/
def execOr_H (s : State) : Res :=
  aluOr (.loc (.reg .H)) s

/-- OR L (R110). -/
def execOr_L (s : State) : Res :=
  aluOr (.loc (.reg .L)) s

/-- OR (HL) (R111). -/
def execOr_indHL (s : State) : Res :=
  aluOr (.loc .indHL) s

/-- OR A (R110). -/
def execOr_A (s : State) : Res :=
  aluOr (.loc (.reg .A)) s

/-- AND d8 (R106). -/
def execAnd_d8 (n : Byte) (s : State) : Res :=
  aluAnd (.imm n) s

/-- XOR d8 (R109). -/
def execXor_d8 (n : Byte) (s : State) : Res :=
  aluXor (.imm n) s

/-- OR d8 (R112). -/
def execOr_d8 (n : Byte) (s : State) : Res :=
  aluOr (.imm n) s

/-- RL B (R116). -/
def execRl_B (s : State) : Res :=
  rotateLeft (.reg .B) s

/-- RL C (R116). -/
def execRl_C (s : State) : Res :=
  rotateLeft (.reg .C) s

/-- RL D (R116). -/
def execRl_D (s : State) : Res :=
  rotateLeft (.reg .D) s

/-- RL E (R116). -/
def execRl_E (s : State) : Res :=
  rotateLeft (.reg .E) s

/-- RL H (R116). -/
def execRl_H (s : State) : Res :=
  rotateLeft (.reg .H) s

/-- RL L (R116). -/
def execRl_L (s : State) : Res :=
  rotateLeft (.reg .L) s

/-- RL (HL) (R117). -/
def execRl_indHL (s : State) : Res :=
  rotateLeft .indHL s

/-- RL A (R116). -/
def execRl_A (s : State) : Res :=
  rotateLeft (.reg .A) s

/-- BIT 0,B (R113). -/
def execBit_0_B (s : State) : Res :=
  testBit .n0 (.reg .B) s

/-- BIT 0,C (R113). -/
def execBit_0_C (s : State) : Res :=
  testBit .n0 (.reg .C) s

/-- BIT 0,D (R113). -/
def execBit_0_D (s : State) : Res :=
  testBit .n0 (.reg .D) s

/-- BIT 0,E (R113). -/
def execBit_0_E (s : State) : Res :=
  testBit .n0 (.reg .E) s

/-- BIT 0,H (R113). -/
def execBit_0_H (s : State) : Res :=
  testBit .n0 (.reg .H) s

/-- BIT 0,L (R113). -/
def execBit_0_L (s : State) : Res :=
  testBit .n0 (.reg .L) s

/-- BIT 0,(HL) (R114). -/
def execBit_0_indHL (s : State) : Res :=
  testBit .n0 .indHL s

/-- BIT 0,A (R113). -/
def execBit_0_A (s : State) : Res :=
  testBit .n0 (.reg .A) s

/-- BIT 1,B (R113). -/
def execBit_1_B (s : State) : Res :=
  testBit .n1 (.reg .B) s

/-- BIT 1,C (R113). -/
def execBit_1_C (s : State) : Res :=
  testBit .n1 (.reg .C) s

/-- BIT 1,D (R113). -/
def execBit_1_D (s : State) : Res :=
  testBit .n1 (.reg .D) s

/-- BIT 1,E (R113). -/
def execBit_1_E (s : State) : Res :=
  testBit .n1 (.reg .E) s

/-- BIT 1,H (R113). -/
def execBit_1_H (s : State) : Res :=
  testBit .n1 (.reg .H) s

/-- BIT 1,L (R113). -/
def execBit_1_L (s : State) : Res :=
  testBit .n1 (.reg .L) s

/-- BIT 1,(HL) (R114). -/
def execBit_1_indHL (s : State) : Res :=
  testBit .n1 .indHL s

/-- BIT 1,A (R113). -/
def execBit_1_A (s : State) : Res :=
  testBit .n1 (.reg .A) s

/-- BIT 2,B (R113). -/
def execBit_2_B (s : State) : Res :=
  testBit .n2 (.reg .B) s

/-- BIT 2,C (R113). -/
def execBit_2_C (s : State) : Res :=
  testBit .n2 (.reg .C) s

/-- BIT 2,D (R113). -/
def execBit_2_D (s : State) : Res :=
  testBit .n2 (.reg .D) s

/-- BIT 2,E (R113). -/
def execBit_2_E (s : State) : Res :=
  testBit .n2 (.reg .E) s

/-- BIT 2,H (R113). -/
def execBit_2_H (s : State) : Res :=
  testBit .n2 (.reg .H) s

/-- BIT 2,L (R113). -/
def execBit_2_L (s : State) : Res :=
  testBit .n2 (.reg .L) s

/-- BIT 2,(HL) (R114). -/
def execBit_2_indHL (s : State) : Res :=
  testBit .n2 .indHL s

/-- BIT 2,A (R113). -/
def execBit_2_A (s : State) : Res :=
  testBit .n2 (.reg .A) s

/-- BIT 3,B (R113). -/
def execBit_3_B (s : State) : Res :=
  testBit .n3 (.reg .B) s

/-- BIT 3,C (R113). -/
def execBit_3_C (s : State) : Res :=
  testBit .n3 (.reg .C) s

/-- BIT 3,D (R113). -/
def execBit_3_D (s : State) : Res :=
  testBit .n3 (.reg .D) s

/-- BIT 3,E (R113). -/
def execBit_3_E (s : State) : Res :=
  testBit .n3 (.reg .E) s

/-- BIT 3,H (R113). -/
def execBit_3_H (s : State) : Res :=
  testBit .n3 (.reg .H) s

/-- BIT 3,L (R113). -/
def execBit_3_L (s : State) : Res :=
  testBit .n3 (.reg .L) s

/-- BIT 3,(HL) (R114). -/
def execBit_3_indHL (s : State) : Res :=
  testBit .n3 .indHL s

/-- BIT 3,A (R113). -/
def execBit_3_A (s : State) : Res :=
  testBit .n3 (.reg .A) s

/-- BIT 4,B (R113). -/
def execBit_4_B (s : State) : Res :=
  testBit .n4 (.reg .B) s

/-- BIT 4,C (R113). -/
def execBit_4_C (s : State) : Res :=
  testBit .n4 (.reg .C) s

/-- BIT 4,D (R113). -/
def execBit_4_D (s : State) : Res :=
  testBit .n4 (.reg .D) s

/-- BIT 4,E (R113). -/
def execBit_4_E (s : State) : Res :=
  testBit .n4 (.reg .E) s

/-- BIT 4,H (R113). -/
def execBit_4_H (s : State) : Res :=
  testBit .n4 (.reg .H) s

/-- BIT 4,L (R113). -/
def execBit_4_L (s : State) : Res :=
  testBit .n4 (.reg .L) s

/-- BIT 4,(HL) (R114). -/
def execBit_4_indHL (s : State) : Res :=
  testBit .n4 .indHL s

/-- BIT 4,A (R113). -/
def execBit_4_A (s : State) : Res :=
  testBit .n4 (.reg .A) s

/-- BIT 5,B (R113). -/
def execBit_5_B (s : State) : Res :=
  testBit .n5 (.reg .B) s

/-- BIT 5,C (R113). -/
def execBit_5_C (s : State) : Res :=
  testBit .n5 (.reg .C) s

/-- BIT 5,D (R113). -/
def execBit_5_D (s : State) : Res :=
  testBit .n5 (.reg .D) s

/-- BIT 5,E (R113). -/
def execBit_5_E (s : State) : Res :=
  testBit .n5 (.reg .E) s

/-- BIT 5,H (R113). -/
def execBit_5_H (s : State) : Res :=
  testBit .n5 (.reg .H) s

/-- BIT 5,L (R113). -/
def execBit_5_L (s : State) : Res :=
  testBit .n5 (.reg .L) s

/-- BIT 5,(HL) (R114). -/
def execBit_5_indHL (s : State) : Res :=
  testBit .n5 .indHL s

/-- BIT 5,A (R113). -/
def execBit_5_A (s : State) : Res :=
  testBit .n5 (.reg .A) s

/-- BIT 6,B (R113). -/
def execBit_6_B (s : State) : Res :=
  testBit .n6 (.reg .B) s

/-- BIT 6,C (R113). -/
def execBit_6_C (s : State) : Res :=
  testBit .n6 (.reg .C) s

/-- BIT 6,D (R113). -/
def execBit_6_D (s : State) : Res :=
  testBit .n6 (.reg .D) s

/-- BIT 6,E (R113). -/
def execBit_6_E (s : State) : Res :=
  testBit .n6 (.reg .E) s

/-- BIT 6,H (R113). -/
def execBit_6_H (s : State) : Res :=
  testBit .n6 (.reg .H) s

/-- BIT 6,L (R113). -/
def execBit_6_L (s : State) : Res :=
  testBit .n6 (.reg .L) s

/-- BIT 6,(HL) (R114). -/
def execBit_6_indHL (s : State) : Res :=
  testBit .n6 .indHL s

/-- BIT 6,A (R113). -/
def execBit_6_A (s : State) : Res :=
  testBit .n6 (.reg .A) s

/-- BIT 7,B (R113). -/
def execBit_7_B (s : State) : Res :=
  testBit .n7 (.reg .B) s

/-- BIT 7,C (R113). -/
def execBit_7_C (s : State) : Res :=
  testBit .n7 (.reg .C) s

/-- BIT 7,D (R113). -/
def execBit_7_D (s : State) : Res :=
  testBit .n7 (.reg .D) s

/-- BIT 7,E (R113). -/
def execBit_7_E (s : State) : Res :=
  testBit .n7 (.reg .E) s

/-- BIT 7,H (R113). -/
def execBit_7_H (s : State) : Res :=
  testBit .n7 (.reg .H) s

/-- BIT 7,L (R113). -/
def execBit_7_L (s : State) : Res :=
  testBit .n7 (.reg .L) s

/-- BIT 7,(HL) (R114). -/
def execBit_7_indHL (s : State) : Res :=
  testBit .n7 .indHL s

/-- BIT 7,A (R113). -/
def execBit_7_A (s : State) : Res :=
  testBit .n7 (.reg .A) s

end Sys2Proof.Machine
end

