-- ==== Sys2Proof/Machine/System.lean ====
section
/-! DEFINITION. DI and NOP (spec 44_system R150, R151). -/
namespace Sys2Proof.Machine

/-- NOP (R151). -/
def execNop (s : State) : Res :=
  .next (s.retire .noResult)

/-- DI (R150). -/
def execDi (s : State) : Res :=
  .next ((s.setIme false).retire .noResult)

end Sys2Proof.Machine
end

