-- ==== Sys2Proof/Machine/Unimplemented.lean ====
section
/-! DEFINITION. What decodes but has no handler (spec 30_encoding R80), a key without an entry (R79) and a prefix byte cut short
(R75): each raises its fault and writes nothing else (spec 60_exceptions R155 to R161). -/
namespace Sys2Proof.Machine

/-- UnimplementedInstruction (R157): records cur_pc and the descriptor's name. -/
def unimplemented (name : FormName) (s : State) : Res :=
  .next (s.raise (.unimplementedInstruction s.pc name))

/-- RLCA (R157, R80). -/
def execRlca (s : State) : Res :=
  unimplemented ⟨.RLCA, []⟩ s

/-- RRCA (R157, R80). -/
def execRrca (s : State) : Res :=
  unimplemented ⟨.RRCA, []⟩ s

/-- STOP 0 (R157, R80). -/
def execStop_0 (_n : Byte) (s : State) : Res :=
  unimplemented ⟨.STOP, [.bit .n0]⟩ s

/-- RRA (R157, R80). -/
def execRra (s : State) : Res :=
  unimplemented ⟨.RRA, []⟩ s

/-- DAA (R157, R80). -/
def execDaa (s : State) : Res :=
  unimplemented ⟨.DAA, []⟩ s

/-- CPL (R157, R80). -/
def execCpl (s : State) : Res :=
  unimplemented ⟨.CPL, []⟩ s

/-- SCF (R157, R80). -/
def execScf (s : State) : Res :=
  unimplemented ⟨.SCF, []⟩ s

/-- CCF (R157, R80). -/
def execCcf (s : State) : Res :=
  unimplemented ⟨.CCF, []⟩ s

/-- HALT (R157, R80). -/
def execHalt (s : State) : Res :=
  unimplemented ⟨.HALT, []⟩ s

/-- ADC A,B (R157, R80). -/
def execAdc_A_B (s : State) : Res :=
  unimplemented ⟨.ADC, [.reg8 .A, .reg8 .B]⟩ s

/-- ADC A,C (R157, R80). -/
def execAdc_A_C (s : State) : Res :=
  unimplemented ⟨.ADC, [.reg8 .A, .reg8 .C]⟩ s

/-- ADC A,D (R157, R80). -/
def execAdc_A_D (s : State) : Res :=
  unimplemented ⟨.ADC, [.reg8 .A, .reg8 .D]⟩ s

/-- ADC A,E (R157, R80). -/
def execAdc_A_E (s : State) : Res :=
  unimplemented ⟨.ADC, [.reg8 .A, .reg8 .E]⟩ s

/-- ADC A,H (R157, R80). -/
def execAdc_A_H (s : State) : Res :=
  unimplemented ⟨.ADC, [.reg8 .A, .reg8 .H]⟩ s

/-- ADC A,L (R157, R80). -/
def execAdc_A_L (s : State) : Res :=
  unimplemented ⟨.ADC, [.reg8 .A, .reg8 .L]⟩ s

/-- ADC A,(HL) (R157, R80). -/
def execAdc_A_indHL (s : State) : Res :=
  unimplemented ⟨.ADC, [.reg8 .A, .ind .HL]⟩ s

/-- ADC A,A (R157, R80). -/
def execAdc_A_A (s : State) : Res :=
  unimplemented ⟨.ADC, [.reg8 .A, .reg8 .A]⟩ s

/-- SBC A,B (R157, R80). -/
def execSbc_A_B (s : State) : Res :=
  unimplemented ⟨.SBC, [.reg8 .A, .reg8 .B]⟩ s

/-- SBC A,C (R157, R80). -/
def execSbc_A_C (s : State) : Res :=
  unimplemented ⟨.SBC, [.reg8 .A, .reg8 .C]⟩ s

/-- SBC A,D (R157, R80). -/
def execSbc_A_D (s : State) : Res :=
  unimplemented ⟨.SBC, [.reg8 .A, .reg8 .D]⟩ s

/-- SBC A,E (R157, R80). -/
def execSbc_A_E (s : State) : Res :=
  unimplemented ⟨.SBC, [.reg8 .A, .reg8 .E]⟩ s

/-- SBC A,H (R157, R80). -/
def execSbc_A_H (s : State) : Res :=
  unimplemented ⟨.SBC, [.reg8 .A, .reg8 .H]⟩ s

/-- SBC A,L (R157, R80). -/
def execSbc_A_L (s : State) : Res :=
  unimplemented ⟨.SBC, [.reg8 .A, .reg8 .L]⟩ s

/-- SBC A,(HL) (R157, R80). -/
def execSbc_A_indHL (s : State) : Res :=
  unimplemented ⟨.SBC, [.reg8 .A, .ind .HL]⟩ s

/-- SBC A,A (R157, R80). -/
def execSbc_A_A (s : State) : Res :=
  unimplemented ⟨.SBC, [.reg8 .A, .reg8 .A]⟩ s

/-- JP NZ,a16 (R157, R80). -/
def execJp_NZ_a16 (_nn : Word) (s : State) : Res :=
  unimplemented ⟨.JP, [.cond .NZ, .a16]⟩ s

/-- JP a16 (R157, R80). -/
def execJp_a16 (_nn : Word) (s : State) : Res :=
  unimplemented ⟨.JP, [.a16]⟩ s

/-- RST 00H (R157, R80). -/
def execRst_00H (s : State) : Res :=
  unimplemented ⟨.RST, [.rst .n0]⟩ s

/-- JP Z,a16 (R157, R80). -/
def execJp_Z_a16 (_nn : Word) (s : State) : Res :=
  unimplemented ⟨.JP, [.cond .Z, .a16]⟩ s

/-- A prefix byte with no byte after it (R156, R160). -/
def execPrefix_CB (s : State) : Res :=
  .next (s.raise (.truncatedPrefix s.pc [s.params.prefixByte]))

/-- ADC A,d8 (R157, R80). -/
def execAdc_A_d8 (_n : Byte) (s : State) : Res :=
  unimplemented ⟨.ADC, [.reg8 .A, .d8]⟩ s

/-- RST 08H (R157, R80). -/
def execRst_08H (s : State) : Res :=
  unimplemented ⟨.RST, [.rst .n1]⟩ s

/-- JP NC,a16 (R157, R80). -/
def execJp_NC_a16 (_nn : Word) (s : State) : Res :=
  unimplemented ⟨.JP, [.cond .NC, .a16]⟩ s

/-- A key without a table entry (R155, R160). -/
def execAbsent (bytes : List Byte) (s : State) : Res :=
  .next (s.raise (.unknownOpcode s.pc bytes))

/-- RST 10H (R157, R80). -/
def execRst_10H (s : State) : Res :=
  unimplemented ⟨.RST, [.rst .n2]⟩ s

/-- RETI (R157, R80). -/
def execReti (s : State) : Res :=
  unimplemented ⟨.RETI, []⟩ s

/-- JP C,a16 (R157, R80). -/
def execJp_C_a16 (_nn : Word) (s : State) : Res :=
  unimplemented ⟨.JP, [.cond .C, .a16]⟩ s

/-- SBC A,d8 (R157, R80). -/
def execSbc_A_d8 (_n : Byte) (s : State) : Res :=
  unimplemented ⟨.SBC, [.reg8 .A, .d8]⟩ s

/-- RST 18H (R157, R80). -/
def execRst_18H (s : State) : Res :=
  unimplemented ⟨.RST, [.rst .n3]⟩ s

/-- RST 20H (R157, R80). -/
def execRst_20H (s : State) : Res :=
  unimplemented ⟨.RST, [.rst .n4]⟩ s

/-- ADD SP,r8 (R157, R80). -/
def execAdd_SP_r8 (_n : Byte) (s : State) : Res :=
  unimplemented ⟨.ADD, [.reg16 .SP, .r8]⟩ s

/-- JP (HL) (R157, R80). -/
def execJp_indHL (s : State) : Res :=
  unimplemented ⟨.JP, [.ind .HL]⟩ s

/-- RST 28H (R157, R80). -/
def execRst_28H (s : State) : Res :=
  unimplemented ⟨.RST, [.rst .n5]⟩ s

/-- POP AF (R157, R80). -/
def execPop_AF (s : State) : Res :=
  unimplemented ⟨.POP, [.AF]⟩ s

/-- PUSH AF (R157, R80). -/
def execPush_AF (s : State) : Res :=
  unimplemented ⟨.PUSH, [.AF]⟩ s

/-- RST 30H (R157, R80). -/
def execRst_30H (s : State) : Res :=
  unimplemented ⟨.RST, [.rst .n6]⟩ s

/-- LD HL,SP+r8 (R157, R80). -/
def execLd_HL_SPr8 (_n : Byte) (s : State) : Res :=
  unimplemented ⟨.LD, [.reg16 .HL, .spPlusR8]⟩ s

/-- EI (R157, R80). -/
def execEi (s : State) : Res :=
  unimplemented ⟨.EI, []⟩ s

/-- RST 38H (R157, R80). -/
def execRst_38H (s : State) : Res :=
  unimplemented ⟨.RST, [.rst .n7]⟩ s

/-- RLC r (R157, R80). -/
def execRlc_r (r : Loc8) (s : State) : Res :=
  unimplemented ⟨.RLC, [r.token]⟩ s

/-- RRC r (R157, R80). -/
def execRrc_r (r : Loc8) (s : State) : Res :=
  unimplemented ⟨.RRC, [r.token]⟩ s

/-- RR r (R157, R80). -/
def execRr_r (r : Loc8) (s : State) : Res :=
  unimplemented ⟨.RR, [r.token]⟩ s

/-- SLA r (R157, R80). -/
def execSla_r (r : Loc8) (s : State) : Res :=
  unimplemented ⟨.SLA, [r.token]⟩ s

/-- SRA r (R157, R80). -/
def execSra_r (r : Loc8) (s : State) : Res :=
  unimplemented ⟨.SRA, [r.token]⟩ s

/-- SWAP r (R157, R80). -/
def execSwap_r (r : Loc8) (s : State) : Res :=
  unimplemented ⟨.SWAP, [r.token]⟩ s

/-- SRL r (R157, R80). -/
def execSrl_r (r : Loc8) (s : State) : Res :=
  unimplemented ⟨.SRL, [r.token]⟩ s

/-- RES b,r (R157, R80). -/
def execRes_b_r (b : Oct) (r : Loc8) (s : State) : Res :=
  unimplemented ⟨.RES, [.bit b, r.token]⟩ s

/-- SET b,r (R157, R80). -/
def execSet_b_r (b : Oct) (r : Loc8) (s : State) : Res :=
  unimplemented ⟨.SET, [.bit b, r.token]⟩ s

end Sys2Proof.Machine
end

