-- ==== Sys2Proof/Machine/Dispatch.lean ====
section
/-! DEFINITION. One arm per constructor of `Instr`: each is one call of that instruction's meaning (spec 30_encoding R77). -/
namespace Sys2Proof.Machine

def exec (i : Instr) (s : State) : Host.Outcome State Fault Refusal :=
  match i with
  | .ld_BC_d16 nn => Sys2Proof.Machine.execLd_BC_d16 nn s
  | .ld_B_d8 n => Sys2Proof.Machine.execLd_B_d8 n s
  | .ld_indA16_SP nn => Sys2Proof.Machine.execLd_indA16_SP nn s
  | .ld_C_d8 n => Sys2Proof.Machine.execLd_C_d8 n s
  | .stop_0 n => Sys2Proof.Machine.execStop_0 n s
  | .ld_DE_d16 nn => Sys2Proof.Machine.execLd_DE_d16 nn s
  | .ld_D_d8 n => Sys2Proof.Machine.execLd_D_d8 n s
  | .jr_r8 n => Sys2Proof.Machine.execJr_r8 n s
  | .ld_E_d8 n => Sys2Proof.Machine.execLd_E_d8 n s
  | .jr_NZ_r8 n => Sys2Proof.Machine.execJr_NZ_r8 n s
  | .ld_HL_d16 nn => Sys2Proof.Machine.execLd_HL_d16 nn s
  | .ld_H_d8 n => Sys2Proof.Machine.execLd_H_d8 n s
  | .jr_Z_r8 n => Sys2Proof.Machine.execJr_Z_r8 n s
  | .ld_L_d8 n => Sys2Proof.Machine.execLd_L_d8 n s
  | .jr_NC_r8 n => Sys2Proof.Machine.execJr_NC_r8 n s
  | .ld_SP_d16 nn => Sys2Proof.Machine.execLd_SP_d16 nn s
  | .ld_indHL_d8 n => Sys2Proof.Machine.execLd_indHL_d8 n s
  | .jr_C_r8 n => Sys2Proof.Machine.execJr_C_r8 n s
  | .ld_A_d8 n => Sys2Proof.Machine.execLd_A_d8 n s
  | .jp_NZ_a16 nn => Sys2Proof.Machine.execJp_NZ_a16 nn s
  | .jp_a16 nn => Sys2Proof.Machine.execJp_a16 nn s
  | .call_NZ_a16 nn => Sys2Proof.Machine.execCall_NZ_a16 nn s
  | .add_A_d8 n => Sys2Proof.Machine.execAdd_A_d8 n s
  | .jp_Z_a16 nn => Sys2Proof.Machine.execJp_Z_a16 nn s
  | .call_Z_a16 nn => Sys2Proof.Machine.execCall_Z_a16 nn s
  | .call_a16 nn => Sys2Proof.Machine.execCall_a16 nn s
  | .adc_A_d8 n => Sys2Proof.Machine.execAdc_A_d8 n s
  | .jp_NC_a16 nn => Sys2Proof.Machine.execJp_NC_a16 nn s
  | .absent bytes => Sys2Proof.Machine.execAbsent bytes s
  | .call_NC_a16 nn => Sys2Proof.Machine.execCall_NC_a16 nn s
  | .sub_d8 n => Sys2Proof.Machine.execSub_d8 n s
  | .jp_C_a16 nn => Sys2Proof.Machine.execJp_C_a16 nn s
  | .call_C_a16 nn => Sys2Proof.Machine.execCall_C_a16 nn s
  | .sbc_A_d8 n => Sys2Proof.Machine.execSbc_A_d8 n s
  | .ldh_indA8_A n => Sys2Proof.Machine.execLdh_indA8_A n s
  | .and_d8 n => Sys2Proof.Machine.execAnd_d8 n s
  | .add_SP_r8 n => Sys2Proof.Machine.execAdd_SP_r8 n s
  | .ld_indA16_A nn => Sys2Proof.Machine.execLd_indA16_A nn s
  | .xor_d8 n => Sys2Proof.Machine.execXor_d8 n s
  | .ldh_A_indA8 n => Sys2Proof.Machine.execLdh_A_indA8 n s
  | .or_d8 n => Sys2Proof.Machine.execOr_d8 n s
  | .ld_HL_SPr8 n => Sys2Proof.Machine.execLd_HL_SPr8 n s
  | .ld_A_indA16 nn => Sys2Proof.Machine.execLd_A_indA16 nn s
  | .cp_d8 n => Sys2Proof.Machine.execCp_d8 n s
  | .rlc_r r => Sys2Proof.Machine.execRlc_r r s
  | .rrc_r r => Sys2Proof.Machine.execRrc_r r s
  | .rr_r r => Sys2Proof.Machine.execRr_r r s
  | .sla_r r => Sys2Proof.Machine.execSla_r r s
  | .sra_r r => Sys2Proof.Machine.execSra_r r s
  | .swap_r r => Sys2Proof.Machine.execSwap_r r s
  | .srl_r r => Sys2Proof.Machine.execSrl_r r s
  | .res_b_r b r => Sys2Proof.Machine.execRes_b_r b r s
  | .set_b_r b r => Sys2Proof.Machine.execSet_b_r b r s
  | .nop => Sys2Proof.Machine.execNop s
  | .ld_indBC_A => Sys2Proof.Machine.execLd_indBC_A s
  | .inc_BC => Sys2Proof.Machine.execInc_BC s
  | .inc_B => Sys2Proof.Machine.execInc_B s
  | .dec_B => Sys2Proof.Machine.execDec_B s
  | .rlca => Sys2Proof.Machine.execRlca s
  | .add_HL_BC => Sys2Proof.Machine.execAdd_HL_BC s
  | .ld_A_indBC => Sys2Proof.Machine.execLd_A_indBC s
  | .dec_BC => Sys2Proof.Machine.execDec_BC s
  | .inc_C => Sys2Proof.Machine.execInc_C s
  | .dec_C => Sys2Proof.Machine.execDec_C s
  | .rrca => Sys2Proof.Machine.execRrca s
  | .ld_indDE_A => Sys2Proof.Machine.execLd_indDE_A s
  | .inc_DE => Sys2Proof.Machine.execInc_DE s
  | .inc_D => Sys2Proof.Machine.execInc_D s
  | .dec_D => Sys2Proof.Machine.execDec_D s
  | .rla => Sys2Proof.Machine.execRla s
  | .add_HL_DE => Sys2Proof.Machine.execAdd_HL_DE s
  | .ld_A_indDE => Sys2Proof.Machine.execLd_A_indDE s
  | .dec_DE => Sys2Proof.Machine.execDec_DE s
  | .inc_E => Sys2Proof.Machine.execInc_E s
  | .dec_E => Sys2Proof.Machine.execDec_E s
  | .rra => Sys2Proof.Machine.execRra s
  | .ld_indHLinc_A => Sys2Proof.Machine.execLd_indHLinc_A s
  | .inc_HL => Sys2Proof.Machine.execInc_HL s
  | .inc_H => Sys2Proof.Machine.execInc_H s
  | .dec_H => Sys2Proof.Machine.execDec_H s
  | .daa => Sys2Proof.Machine.execDaa s
  | .add_HL_HL => Sys2Proof.Machine.execAdd_HL_HL s
  | .ld_A_indHLinc => Sys2Proof.Machine.execLd_A_indHLinc s
  | .dec_HL => Sys2Proof.Machine.execDec_HL s
  | .inc_L => Sys2Proof.Machine.execInc_L s
  | .dec_L => Sys2Proof.Machine.execDec_L s
  | .cpl => Sys2Proof.Machine.execCpl s
  | .ld_indHLdec_A => Sys2Proof.Machine.execLd_indHLdec_A s
  | .inc_SP => Sys2Proof.Machine.execInc_SP s
  | .inc_indHL => Sys2Proof.Machine.execInc_indHL s
  | .dec_indHL => Sys2Proof.Machine.execDec_indHL s
  | .scf => Sys2Proof.Machine.execScf s
  | .add_HL_SP => Sys2Proof.Machine.execAdd_HL_SP s
  | .ld_A_indHLdec => Sys2Proof.Machine.execLd_A_indHLdec s
  | .dec_SP => Sys2Proof.Machine.execDec_SP s
  | .inc_A => Sys2Proof.Machine.execInc_A s
  | .dec_A => Sys2Proof.Machine.execDec_A s
  | .ccf => Sys2Proof.Machine.execCcf s
  | .ld_B_B => Sys2Proof.Machine.execLd_B_B s
  | .ld_B_C => Sys2Proof.Machine.execLd_B_C s
  | .ld_B_D => Sys2Proof.Machine.execLd_B_D s
  | .ld_B_E => Sys2Proof.Machine.execLd_B_E s
  | .ld_B_H => Sys2Proof.Machine.execLd_B_H s
  | .ld_B_L => Sys2Proof.Machine.execLd_B_L s
  | .ld_B_indHL => Sys2Proof.Machine.execLd_B_indHL s
  | .ld_B_A => Sys2Proof.Machine.execLd_B_A s
  | .ld_C_B => Sys2Proof.Machine.execLd_C_B s
  | .ld_C_C => Sys2Proof.Machine.execLd_C_C s
  | .ld_C_D => Sys2Proof.Machine.execLd_C_D s
  | .ld_C_E => Sys2Proof.Machine.execLd_C_E s
  | .ld_C_H => Sys2Proof.Machine.execLd_C_H s
  | .ld_C_L => Sys2Proof.Machine.execLd_C_L s
  | .ld_C_indHL => Sys2Proof.Machine.execLd_C_indHL s
  | .ld_C_A => Sys2Proof.Machine.execLd_C_A s
  | .ld_D_B => Sys2Proof.Machine.execLd_D_B s
  | .ld_D_C => Sys2Proof.Machine.execLd_D_C s
  | .ld_D_D => Sys2Proof.Machine.execLd_D_D s
  | .ld_D_E => Sys2Proof.Machine.execLd_D_E s
  | .ld_D_H => Sys2Proof.Machine.execLd_D_H s
  | .ld_D_L => Sys2Proof.Machine.execLd_D_L s
  | .ld_D_indHL => Sys2Proof.Machine.execLd_D_indHL s
  | .ld_D_A => Sys2Proof.Machine.execLd_D_A s
  | .ld_E_B => Sys2Proof.Machine.execLd_E_B s
  | .ld_E_C => Sys2Proof.Machine.execLd_E_C s
  | .ld_E_D => Sys2Proof.Machine.execLd_E_D s
  | .ld_E_E => Sys2Proof.Machine.execLd_E_E s
  | .ld_E_H => Sys2Proof.Machine.execLd_E_H s
  | .ld_E_L => Sys2Proof.Machine.execLd_E_L s
  | .ld_E_indHL => Sys2Proof.Machine.execLd_E_indHL s
  | .ld_E_A => Sys2Proof.Machine.execLd_E_A s
  | .ld_H_B => Sys2Proof.Machine.execLd_H_B s
  | .ld_H_C => Sys2Proof.Machine.execLd_H_C s
  | .ld_H_D => Sys2Proof.Machine.execLd_H_D s
  | .ld_H_E => Sys2Proof.Machine.execLd_H_E s
  | .ld_H_H => Sys2Proof.Machine.execLd_H_H s
  | .ld_H_L => Sys2Proof.Machine.execLd_H_L s
  | .ld_H_indHL => Sys2Proof.Machine.execLd_H_indHL s
  | .ld_H_A => Sys2Proof.Machine.execLd_H_A s
  | .ld_L_B => Sys2Proof.Machine.execLd_L_B s
  | .ld_L_C => Sys2Proof.Machine.execLd_L_C s
  | .ld_L_D => Sys2Proof.Machine.execLd_L_D s
  | .ld_L_E => Sys2Proof.Machine.execLd_L_E s
  | .ld_L_H => Sys2Proof.Machine.execLd_L_H s
  | .ld_L_L => Sys2Proof.Machine.execLd_L_L s
  | .ld_L_indHL => Sys2Proof.Machine.execLd_L_indHL s
  | .ld_L_A => Sys2Proof.Machine.execLd_L_A s
  | .ld_indHL_B => Sys2Proof.Machine.execLd_indHL_B s
  | .ld_indHL_C => Sys2Proof.Machine.execLd_indHL_C s
  | .ld_indHL_D => Sys2Proof.Machine.execLd_indHL_D s
  | .ld_indHL_E => Sys2Proof.Machine.execLd_indHL_E s
  | .ld_indHL_H => Sys2Proof.Machine.execLd_indHL_H s
  | .ld_indHL_L => Sys2Proof.Machine.execLd_indHL_L s
  | .halt => Sys2Proof.Machine.execHalt s
  | .ld_indHL_A => Sys2Proof.Machine.execLd_indHL_A s
  | .ld_A_B => Sys2Proof.Machine.execLd_A_B s
  | .ld_A_C => Sys2Proof.Machine.execLd_A_C s
  | .ld_A_D => Sys2Proof.Machine.execLd_A_D s
  | .ld_A_E => Sys2Proof.Machine.execLd_A_E s
  | .ld_A_H => Sys2Proof.Machine.execLd_A_H s
  | .ld_A_L => Sys2Proof.Machine.execLd_A_L s
  | .ld_A_indHL => Sys2Proof.Machine.execLd_A_indHL s
  | .ld_A_A => Sys2Proof.Machine.execLd_A_A s
  | .add_A_B => Sys2Proof.Machine.execAdd_A_B s
  | .add_A_C => Sys2Proof.Machine.execAdd_A_C s
  | .add_A_D => Sys2Proof.Machine.execAdd_A_D s
  | .add_A_E => Sys2Proof.Machine.execAdd_A_E s
  | .add_A_H => Sys2Proof.Machine.execAdd_A_H s
  | .add_A_L => Sys2Proof.Machine.execAdd_A_L s
  | .add_A_indHL => Sys2Proof.Machine.execAdd_A_indHL s
  | .add_A_A => Sys2Proof.Machine.execAdd_A_A s
  | .adc_A_B => Sys2Proof.Machine.execAdc_A_B s
  | .adc_A_C => Sys2Proof.Machine.execAdc_A_C s
  | .adc_A_D => Sys2Proof.Machine.execAdc_A_D s
  | .adc_A_E => Sys2Proof.Machine.execAdc_A_E s
  | .adc_A_H => Sys2Proof.Machine.execAdc_A_H s
  | .adc_A_L => Sys2Proof.Machine.execAdc_A_L s
  | .adc_A_indHL => Sys2Proof.Machine.execAdc_A_indHL s
  | .adc_A_A => Sys2Proof.Machine.execAdc_A_A s
  | .sub_B => Sys2Proof.Machine.execSub_B s
  | .sub_C => Sys2Proof.Machine.execSub_C s
  | .sub_D => Sys2Proof.Machine.execSub_D s
  | .sub_E => Sys2Proof.Machine.execSub_E s
  | .sub_H => Sys2Proof.Machine.execSub_H s
  | .sub_L => Sys2Proof.Machine.execSub_L s
  | .sub_indHL => Sys2Proof.Machine.execSub_indHL s
  | .sub_A => Sys2Proof.Machine.execSub_A s
  | .sbc_A_B => Sys2Proof.Machine.execSbc_A_B s
  | .sbc_A_C => Sys2Proof.Machine.execSbc_A_C s
  | .sbc_A_D => Sys2Proof.Machine.execSbc_A_D s
  | .sbc_A_E => Sys2Proof.Machine.execSbc_A_E s
  | .sbc_A_H => Sys2Proof.Machine.execSbc_A_H s
  | .sbc_A_L => Sys2Proof.Machine.execSbc_A_L s
  | .sbc_A_indHL => Sys2Proof.Machine.execSbc_A_indHL s
  | .sbc_A_A => Sys2Proof.Machine.execSbc_A_A s
  | .and_B => Sys2Proof.Machine.execAnd_B s
  | .and_C => Sys2Proof.Machine.execAnd_C s
  | .and_D => Sys2Proof.Machine.execAnd_D s
  | .and_E => Sys2Proof.Machine.execAnd_E s
  | .and_H => Sys2Proof.Machine.execAnd_H s
  | .and_L => Sys2Proof.Machine.execAnd_L s
  | .and_indHL => Sys2Proof.Machine.execAnd_indHL s
  | .and_A => Sys2Proof.Machine.execAnd_A s
  | .xor_B => Sys2Proof.Machine.execXor_B s
  | .xor_C => Sys2Proof.Machine.execXor_C s
  | .xor_D => Sys2Proof.Machine.execXor_D s
  | .xor_E => Sys2Proof.Machine.execXor_E s
  | .xor_H => Sys2Proof.Machine.execXor_H s
  | .xor_L => Sys2Proof.Machine.execXor_L s
  | .xor_indHL => Sys2Proof.Machine.execXor_indHL s
  | .xor_A => Sys2Proof.Machine.execXor_A s
  | .or_B => Sys2Proof.Machine.execOr_B s
  | .or_C => Sys2Proof.Machine.execOr_C s
  | .or_D => Sys2Proof.Machine.execOr_D s
  | .or_E => Sys2Proof.Machine.execOr_E s
  | .or_H => Sys2Proof.Machine.execOr_H s
  | .or_L => Sys2Proof.Machine.execOr_L s
  | .or_indHL => Sys2Proof.Machine.execOr_indHL s
  | .or_A => Sys2Proof.Machine.execOr_A s
  | .cp_B => Sys2Proof.Machine.execCp_B s
  | .cp_C => Sys2Proof.Machine.execCp_C s
  | .cp_D => Sys2Proof.Machine.execCp_D s
  | .cp_E => Sys2Proof.Machine.execCp_E s
  | .cp_H => Sys2Proof.Machine.execCp_H s
  | .cp_L => Sys2Proof.Machine.execCp_L s
  | .cp_indHL => Sys2Proof.Machine.execCp_indHL s
  | .cp_A => Sys2Proof.Machine.execCp_A s
  | .ret_NZ => Sys2Proof.Machine.execRet_NZ s
  | .pop_BC => Sys2Proof.Machine.execPop_BC s
  | .push_BC => Sys2Proof.Machine.execPush_BC s
  | .rst_00H => Sys2Proof.Machine.execRst_00H s
  | .ret_Z => Sys2Proof.Machine.execRet_Z s
  | .ret => Sys2Proof.Machine.execRet s
  | .prefix_CB => Sys2Proof.Machine.execPrefix_CB s
  | .rst_08H => Sys2Proof.Machine.execRst_08H s
  | .ret_NC => Sys2Proof.Machine.execRet_NC s
  | .pop_DE => Sys2Proof.Machine.execPop_DE s
  | .push_DE => Sys2Proof.Machine.execPush_DE s
  | .rst_10H => Sys2Proof.Machine.execRst_10H s
  | .ret_C => Sys2Proof.Machine.execRet_C s
  | .reti => Sys2Proof.Machine.execReti s
  | .rst_18H => Sys2Proof.Machine.execRst_18H s
  | .pop_HL => Sys2Proof.Machine.execPop_HL s
  | .ld_indC_A => Sys2Proof.Machine.execLd_indC_A s
  | .push_HL => Sys2Proof.Machine.execPush_HL s
  | .rst_20H => Sys2Proof.Machine.execRst_20H s
  | .jp_indHL => Sys2Proof.Machine.execJp_indHL s
  | .rst_28H => Sys2Proof.Machine.execRst_28H s
  | .pop_AF => Sys2Proof.Machine.execPop_AF s
  | .ld_A_indC => Sys2Proof.Machine.execLd_A_indC s
  | .di => Sys2Proof.Machine.execDi s
  | .push_AF => Sys2Proof.Machine.execPush_AF s
  | .rst_30H => Sys2Proof.Machine.execRst_30H s
  | .ld_SP_HL => Sys2Proof.Machine.execLd_SP_HL s
  | .ei => Sys2Proof.Machine.execEi s
  | .rst_38H => Sys2Proof.Machine.execRst_38H s
  | .rl_B => Sys2Proof.Machine.execRl_B s
  | .rl_C => Sys2Proof.Machine.execRl_C s
  | .rl_D => Sys2Proof.Machine.execRl_D s
  | .rl_E => Sys2Proof.Machine.execRl_E s
  | .rl_H => Sys2Proof.Machine.execRl_H s
  | .rl_L => Sys2Proof.Machine.execRl_L s
  | .rl_indHL => Sys2Proof.Machine.execRl_indHL s
  | .rl_A => Sys2Proof.Machine.execRl_A s
  | .bit_0_B => Sys2Proof.Machine.execBit_0_B s
  | .bit_0_C => Sys2Proof.Machine.execBit_0_C s
  | .bit_0_D => Sys2Proof.Machine.execBit_0_D s
  | .bit_0_E => Sys2Proof.Machine.execBit_0_E s
  | .bit_0_H => Sys2Proof.Machine.execBit_0_H s
  | .bit_0_L => Sys2Proof.Machine.execBit_0_L s
  | .bit_0_indHL => Sys2Proof.Machine.execBit_0_indHL s
  | .bit_0_A => Sys2Proof.Machine.execBit_0_A s
  | .bit_1_B => Sys2Proof.Machine.execBit_1_B s
  | .bit_1_C => Sys2Proof.Machine.execBit_1_C s
  | .bit_1_D => Sys2Proof.Machine.execBit_1_D s
  | .bit_1_E => Sys2Proof.Machine.execBit_1_E s
  | .bit_1_H => Sys2Proof.Machine.execBit_1_H s
  | .bit_1_L => Sys2Proof.Machine.execBit_1_L s
  | .bit_1_indHL => Sys2Proof.Machine.execBit_1_indHL s
  | .bit_1_A => Sys2Proof.Machine.execBit_1_A s
  | .bit_2_B => Sys2Proof.Machine.execBit_2_B s
  | .bit_2_C => Sys2Proof.Machine.execBit_2_C s
  | .bit_2_D => Sys2Proof.Machine.execBit_2_D s
  | .bit_2_E => Sys2Proof.Machine.execBit_2_E s
  | .bit_2_H => Sys2Proof.Machine.execBit_2_H s
  | .bit_2_L => Sys2Proof.Machine.execBit_2_L s
  | .bit_2_indHL => Sys2Proof.Machine.execBit_2_indHL s
  | .bit_2_A => Sys2Proof.Machine.execBit_2_A s
  | .bit_3_B => Sys2Proof.Machine.execBit_3_B s
  | .bit_3_C => Sys2Proof.Machine.execBit_3_C s
  | .bit_3_D => Sys2Proof.Machine.execBit_3_D s
  | .bit_3_E => Sys2Proof.Machine.execBit_3_E s
  | .bit_3_H => Sys2Proof.Machine.execBit_3_H s
  | .bit_3_L => Sys2Proof.Machine.execBit_3_L s
  | .bit_3_indHL => Sys2Proof.Machine.execBit_3_indHL s
  | .bit_3_A => Sys2Proof.Machine.execBit_3_A s
  | .bit_4_B => Sys2Proof.Machine.execBit_4_B s
  | .bit_4_C => Sys2Proof.Machine.execBit_4_C s
  | .bit_4_D => Sys2Proof.Machine.execBit_4_D s
  | .bit_4_E => Sys2Proof.Machine.execBit_4_E s
  | .bit_4_H => Sys2Proof.Machine.execBit_4_H s
  | .bit_4_L => Sys2Proof.Machine.execBit_4_L s
  | .bit_4_indHL => Sys2Proof.Machine.execBit_4_indHL s
  | .bit_4_A => Sys2Proof.Machine.execBit_4_A s
  | .bit_5_B => Sys2Proof.Machine.execBit_5_B s
  | .bit_5_C => Sys2Proof.Machine.execBit_5_C s
  | .bit_5_D => Sys2Proof.Machine.execBit_5_D s
  | .bit_5_E => Sys2Proof.Machine.execBit_5_E s
  | .bit_5_H => Sys2Proof.Machine.execBit_5_H s
  | .bit_5_L => Sys2Proof.Machine.execBit_5_L s
  | .bit_5_indHL => Sys2Proof.Machine.execBit_5_indHL s
  | .bit_5_A => Sys2Proof.Machine.execBit_5_A s
  | .bit_6_B => Sys2Proof.Machine.execBit_6_B s
  | .bit_6_C => Sys2Proof.Machine.execBit_6_C s
  | .bit_6_D => Sys2Proof.Machine.execBit_6_D s
  | .bit_6_E => Sys2Proof.Machine.execBit_6_E s
  | .bit_6_H => Sys2Proof.Machine.execBit_6_H s
  | .bit_6_L => Sys2Proof.Machine.execBit_6_L s
  | .bit_6_indHL => Sys2Proof.Machine.execBit_6_indHL s
  | .bit_6_A => Sys2Proof.Machine.execBit_6_A s
  | .bit_7_B => Sys2Proof.Machine.execBit_7_B s
  | .bit_7_C => Sys2Proof.Machine.execBit_7_C s
  | .bit_7_D => Sys2Proof.Machine.execBit_7_D s
  | .bit_7_E => Sys2Proof.Machine.execBit_7_E s
  | .bit_7_H => Sys2Proof.Machine.execBit_7_H s
  | .bit_7_L => Sys2Proof.Machine.execBit_7_L s
  | .bit_7_indHL => Sys2Proof.Machine.execBit_7_indHL s
  | .bit_7_A => Sys2Proof.Machine.execBit_7_A s

end Sys2Proof.Machine
end

