-- ==== Sys2Proof/Machine/Run.lean ====
section
/-! DEFINITION. Fetching, the execute sequence `step()` of spec 30_encoding R78 (here `coreStep`), and one move of the run loop
(60_exceptions R164, R180, R189). -/
namespace Sys2Proof.Machine

/-- The bytes the decoder may read at PC (R51, R70, R75): addresses wrap past 0xFFFF, but a prefix byte at 0xFFFF has no byte
after it. Four bytes hold the longest form a table can name: prefix, opcode, 16-bit immediate. -/
def State.fetch (s : State) : List Byte :=
  if s.pc = 0xFFFF ∧ s.readByte s.pc = s.params.prefixByte then [s.readByte s.pc]
  else [s.readByte s.pc, s.readByte (s.pc + 1), s.readByte (s.pc + 2), s.readByte (s.pc + 3)]

/-- The interrupt check after an instruction that retired; a faulting step has none (R168, R170). -/
def State.boundary (s : State) : State :=
  match s.fault with
  | none => s.postInstructionCheck
  | some _ => s

/-- The end of a step: the boundary after the instruction's next state. -/
def afterExec : Res → Res
  | .next s => .next s.boundary
  | .fault f => .fault f
  | .refused r => .refused r

/-- `step()` (R78): decode, the handler's semantics with flags and PC, the interrupt check. -/
def coreStep (s : State) : Res :=
  match decode s.params s.fetch with
  | .instr i e => if i.suits e then afterExec (exec i (s.hold e)) else .refused .illFormedTable
  | .undecodable i => afterExec (exec i s)
  | .noHandler name => .next (s.raise (.unimplementedInstruction s.pc name))
  | .short => .refused .shortFetch

/-- `gate()`, then `step()` if the gate did not suspend (R164, R179). -/
def gateAndStep (s : State) : Res :=
  let g := s.gate
  if g.suspended then .next g else coreStep g

/-- What follows a debug command: the step at once if it resumed, else the prompt again (R179, R180). -/
def afterCommand (s : State) : Res :=
  if s.suspended then .next s else coreStep s

/-- A request of the host (R167). -/
def hostRequest (s : State) (i : Nat) : Res :=
  match s.request i with
  | some s' => .next s'
  | none => .refused .noSuchMove

/-- The loop at a boundary, before its gate (R164, R189). A debug command has no move here and waits for a pause
(assumption log 12). -/
def atBoundary (s : State) : Res :=
  match s.host with
  | .request i :: rest => hostRequest { s with host := rest } i
  | .stop :: rest => .next { s with host := rest, ended := true }
  | .idle :: rest => gateAndStep { s with host := rest }
  | .command _ :: _ => gateAndStep s
  | [] => gateAndStep s

/-- The loop inside the gate's wait (R180, R189). -/
def atPause (s : State) : Res :=
  match s.host with
  | .request i :: rest => hostRequest { s with host := rest } i
  | .stop :: rest => .next { s with host := rest, ended := true }
  | .idle :: rest => .next { s with host := rest }
  | .command line :: rest => afterCommand ({ s with host := rest }.command line)
  | [] => .refused .awaitingCommand

/-- One move of the run loop (R164): nothing after a fault (R161) or after the host has stopped the run (R165). -/
def loopStep (s : State) : Res :=
  match s.fault with
  | some f => .fault f
  | none =>
    if s.ended then .refused .runEnded
    else if s.suspended then atPause s
    else atBoundary s

/-- Where `withFetchWord` puts an instruction: at PC; but the lone prefix byte at 0xFFFF, the one address where no byte follows it,
and a prefixed instruction never there (R75). -/
def tableWordPc (s : State) (nbits w : Nat) : Word :=
  match tableWordBytes nbits w with
  | [_] => 0xFFFF
  | b :: _ => if b = Config.reference.prefixByte ∧ s.pc = 0xFFFF then 0 else s.pc
  | [] => s.pc

/-- The state ready to fetch the given bytes at `pc` under the reference table in the very next step: nothing halted, stopped or
suspended, no breakpoint and no host move before it. -/
def State.readyToFetch (s : State) (pc : Word) (bytes : List Byte) : State :=
  { s with
    pc := pc, mem := s.mem.load pc bytes, params := Config.reference, fault := none, ended := false, suspended := false,
    stepping := false, mode := .running, bp := [], host := [] }

end Sys2Proof.Machine
end

