-- ==== Sys2Proof/Machine/Step.lean ====
section
/-! DEFINITION. One step of the machine: one move of the run loop of spec 60_exceptions R164. And the state that fetches a given
word of spec/opcode_table.json next. -/
namespace Sys2Proof.Machine

/-- One move of the run loop (R164, R189): a host move, the gate's suspension, or an instruction with its interrupt check. -/
def step : State → Host.Outcome State Fault Refusal := loopStep

/-- `s` with the instruction whose table bits are `w` standing where the next step fetches it (assumption logs 6 and 19). -/
def State.withFetchWord (s : State) (nbits w : Nat) : State :=
  s.readyToFetch (tableWordPc s nbits w) (tableWordBytes nbits w)

end Sys2Proof.Machine
end

