-- ==== Sys2Proof/Machine/Launch.lean ====
section
/-! DEFINITION. Start-up (spec 70_reset_and_hazards R190 to R198): the launch inputs as one record, and the state a run starts in.
`State.reset` is the start for the inputs `Launch.reference`. -/
namespace Sys2Proof.Machine

/-- The inputs of a run (R11, R198): the parameters and every launch value. -/
structure Launch where
  /-- OPCODE_TABLE and PREFIX_BYTE. -/
  params : Params
  /-- IRQ_VECTORS with the launch values of IE and IF. -/
  irq : List IrqSource
  /-- DEBUG_MODE. -/
  debugMode : Bool
  /-- SEED. -/
  seed : List Byte
  /-- Launch values of A to L and SP. -/
  regs : Regs
  /-- Launch values of the flags. -/
  flags : Flags
  /-- Launch value of IME. -/
  ime : Bool
  /-- Launch values of memory; the seed is written over them. -/
  mem : Memory
  /-- The host's moves. -/
  host : List HostMove
  deriving DecidableEq, Repr

/-- The inputs the CORE accepts: a well-formed table (R36), a seed of at most 65,536 bytes (R192), memory in canonical form. -/
def Launch.accepted (x : Launch) : Bool :=
  x.params.table.wellFormed && x.seed.length ≤ 65536 && x.mem.wf

/-- The start of a run (R190, R192 to R197); nothing for inputs that are refused. -/
def launch (x : Launch) : Option State :=
  if x.accepted then
    some
      { regs := x.regs
        pc := 0
        flags := x.flags
        mem := x.mem.load 0 x.seed
        ime := x.ime
        irq := x.irq
        bp := []
        stepping := x.debugMode
        mode := if x.debugMode then .steppingOneInstruction else .running
        fault := none
        params := x.params
        suspended := false
        entry := ⟨1, Config.codeNone⟩
        host := x.host
        ended := false
        replies := [] }
  else none

/-- The inputs behind `State.reset`: the reference parameters, no seed, every launch value 0 or false. -/
def Launch.reference : Launch where
  params := Config.reference
  irq := IrqSource.reset
  debugMode := false
  seed := []
  regs := Regs.reset
  flags := Flags.reset
  ime := false
  mem := []
  host := []

end Sys2Proof.Machine
end

