-- ==== Sys2Proof/Safety.lean ====
section
/-! DEFINITION. What claims about the CORE are stated in: what a step leaves unchanged, the invariant of every step, a boundary
at which the CORE runs its next instruction, and architectural state. -/
namespace Sys2Proof.Machine

/-- The 8-bit registers outside a list are unchanged. -/
def RegsUnchangedExcept (rs : List Reg8) (s t : State) : Prop := ∀ r, r ∉ rs → t.reg r = s.reg r

/-- Every byte of memory outside a list of addresses is unchanged. -/
def MemUnchangedExcept (as : List Word) (s t : State) : Prop := ∀ a, a ∉ as → t.readByte a = s.readByte a

/-- Everything but the register file, PC, the flags, memory and IME is unchanged. -/
structure ControlUnchanged (s t : State) : Prop where
  irq : t.irq = s.irq
  bp : t.bp = s.bp
  stepping : t.stepping = s.stepping
  mode : t.mode = s.mode
  fault : t.fault = s.fault
  params : t.params = s.params
  suspended : t.suspended = s.suspended
  entry : t.entry = s.entry
  host : t.host = s.host
  ended : t.ended = s.ended
  replies : t.replies = s.replies

/-- The frame of an instruction that may write the registers `rs`, SP, and the bytes `as`; PC and the flags apart. -/
structure FrameSp (rs : List Reg8) (as : List Word) (s t : State) : Prop where
  regs : RegsUnchangedExcept rs s t
  mem : MemUnchangedExcept as s t
  ime : t.ime = s.ime
  control : ControlUnchanged s t

/-- The frame of an instruction that may write the registers `rs` and the bytes `as`; PC and the flags apart. -/
structure Frame (rs : List Reg8) (as : List Word) (s t : State) : Prop extends FrameSp rs as s t where
  sp : t.reg16 .SP = s.reg16 .SP

/-- The invariant every step keeps: canonical memory, a well-formed table (R36), `mode` is Running exactly while `stepping` is
false, and the CORE is suspended only while `stepping` (R179, R184). -/
structure State.Inv (s : State) : Prop where
  mem : s.mem.wf = true
  table : s.params.table.wellFormed = true
  mode : s.stepping = false ↔ s.mode = .running
  pause : s.suspended = true → s.stepping = true

/-- Nothing halted, stopped, suspended or about to be suspended, and no host move: the next step runs an instruction. -/
structure State.Free (s : State) : Prop where
  fault : s.fault = none
  ended : s.ended = false
  suspended : s.suspended = false
  stepping : s.stepping = false
  breakpoint : s.atBreakpoint = false
  host : s.host = []

/-- Two states have the same architectural state: registers, PC, flags, memory, the interrupt controller, `fault` and the
parameters (R160, R181). -/
structure SameArch (s t : State) : Prop where
  regs : t.regs = s.regs
  pc : t.pc = s.pc
  flags : t.flags = s.flags
  mem : t.mem = s.mem
  ime : t.ime = s.ime
  irq : t.irq = s.irq
  fault : t.fault = s.fault
  params : t.params = s.params

/-- Under the reference table the bytes decode to the instruction, with that length and flag code, whatever follows them. -/
def Encodes (bytes : List Byte) (i : Instr) (e : Entry) : Prop :=
  ∀ tail, decode Config.reference (bytes ++ tail) = .instr i e

/-- The 8-bit registers a 16-bit register consists of (R23, R24). -/
def halves : Reg16 → List Reg8
  | .BC => [.B, .C]
  | .DE => [.D, .E]
  | .HL => [.H, .L]
  | .SP => []

/-- The instruction runs to a next state that meets a condition, with a given table entry in hand (R78). -/
def Runs (i : Instr) (e : Entry) (s : State) (post : State → Prop) : Prop :=
  ∃ t, exec i (s.hold e) = .next t ∧ post t

end Sys2Proof.Machine
end

