-- ==== Sys2Proof/Certificates/Slice0/Obligations.lean ====
section
/-! DEFINITION. The statements for the provers, from the numbered rules of the spec. In the statements about an instruction,
`Encodes` gives its bytes, length and flag code in the reference table, and `Runs` its next state from ANY state with that entry in
hand: the instruction completes, with the result, the flags, PC and the frame named. Numbers are naturals, masked explicitly. -/
open Sys2Proof Sys2Proof.Machine

namespace Sys2Proof.Claims

/-- A 16-bit value of a number, modulo 65536 (R13). -/
def w16 (n : Nat) : Word := BitVec.ofNat 16 n

/-- An operand code in its place in an opcode byte (R69). -/
def field (code : Byte) (bit : Nat) : Byte := code <<< bit

/-- The signed value of a relative offset (R15). -/
def signed (n : Byte) : Int := if n.toNat < 128 then n.toNat else (n.toNat : Int) - 256

/-- After an addition of `v` to A (R86). -/
structure Added (s : State) (e : Entry) (v : Byte) (t : State) : Prop where
  sum : (t.reg .A).toNat = ((s.reg .A).toNat + v.toNat) % 256
  flags : t.flags = ⟨decide (((s.reg .A).toNat + v.toNat) % 256 = 0), false,
    decide ((s.reg .A).toNat % 16 + v.toNat % 16 > 0x0F), decide ((s.reg .A).toNat + v.toNat > 0xFF)⟩
  pc : t.pc = s.pc + w16 e.len
  frame : Frame [.A] [] (s.hold e) t

/-- The flags after a subtraction of `v` from A (R87). -/
def subFlags (s : State) (v : Byte) : Flags :=
  ⟨decide (s.reg .A = v), true, decide ((s.reg .A).toNat % 16 < v.toNat % 16), decide ((s.reg .A).toNat < v.toNat)⟩

/-- After a subtraction of `v` from A (R87). -/
structure Subtracted (s : State) (e : Entry) (v : Byte) (t : State) : Prop where
  diff : (t.reg .A).toNat = ((s.reg .A).toNat + 256 - v.toNat) % 256
  flags : t.flags = subFlags s v
  pc : t.pc = s.pc + w16 e.len
  frame : Frame [.A] [] (s.hold e) t

/-- After a comparison of A with `v`. -/
structure Compared (s : State) (e : Entry) (v : Byte) (t : State) : Prop where
  flags : t.flags = subFlags s v
  pc : t.pc = s.pc + w16 e.len
  frame : Frame [] [] (s.hold e) t

/-- After a form that writes the byte `res` to a register or to the byte at HL, sets the flags and moves on. -/
structure WroteLoc (s : State) (e : Entry) (x : Loc8) (res : Byte) (f : Flags) (t : State) : Prop where
  value : match x with
    | .reg r => t.reg r = res
    | .indHL => t.readByte (s.reg16 .HL) = res
  flags : t.flags = f
  pc : t.pc = s.pc + w16 e.len
  frame : match x with
    | .reg r => Frame [r] [] (s.hold e) t
    | .indHL => Frame [] [s.reg16 .HL] (s.hold e) t

/-- After a form that writes a 16-bit register, leaves or sets the flags and moves on. -/
structure WroteReg16 (s : State) (e : Entry) (r : Reg16) (v : Word) (f : Flags) (t : State) : Prop where
  value : t.reg16 r = v
  flags : t.flags = f
  pc : t.pc = s.pc + w16 e.len
  frame : FrameSp (halves r) [] (s.hold e) t
  sp : r ≠ .SP → t.reg16 .SP = s.reg16 .SP

/-- After a form that writes A and sets the flags Z, N, H, C as given. -/
def WroteA (s : State) (e : Entry) (res : Byte) (f : Flags) (t : State) : Prop :=
  WroteLoc s e (.reg .A) res f t

/-- After a form that changes only flags and PC. -/
structure SetFlags (s : State) (e : Entry) (f : Flags) (t : State) : Prop where
  flags : t.flags = f
  pc : t.pc = s.pc + w16 e.len
  frame : Frame [] [] (s.hold e) t

/-- After a store of the byte `v` at `a`, with no register change. -/
structure Stored (s : State) (e : Entry) (a : Word) (v : Byte) (t : State) : Prop where
  value : t.readByte a = v
  flags : t.flags = s.flags
  pc : t.pc = s.pc + w16 e.len
  frame : Frame [] [a] (s.hold e) t

/-- After a jump that changes only PC. -/
structure Jumped (s : State) (e : Entry) (target : Word) (t : State) : Prop where
  pc : t.pc = target
  flags : t.flags = s.flags
  frame : Frame [] [] (s.hold e) t

/-- After a push of `v` (R57), with PC at `target`. -/
structure Pushed (s : State) (e : Entry) (v target : Word) (t : State) : Prop where
  sp : t.reg16 .SP = s.reg16 .SP - 2
  high : (t.readByte (s.reg16 .SP - 1)).toNat = v.toNat / 256
  low : (t.readByte (s.reg16 .SP - 2)).toNat = v.toNat % 256
  pc : t.pc = target
  flags : t.flags = s.flags
  frame : FrameSp [] [s.reg16 .SP - 1, s.reg16 .SP - 2] (s.hold e) t

/-- The 16-bit value on top of the stack (R58). -/
def onStack (s : State) : Word :=
  w16 ((s.readByte (s.reg16 .SP + 1)).toNat * 256 + (s.readByte (s.reg16 .SP)).toNat)

/-- After a return: PC popped (R58). -/
structure Returned (s : State) (e : Entry) (t : State) : Prop where
  pc : t.pc = onStack s
  sp : t.reg16 .SP = s.reg16 .SP + 2
  flags : t.flags = s.flags
  frame : FrameSp [] [] (s.hold e) t

/-- A byte moved up one place, the carry in bit 0 (R115). -/
def rotated (v : Byte) (c : Bool) : Byte := v <<< 1 ||| (if c then 1 else 0)

/-- A form that stores A at HL and then adds `delta` to HL. -/
def StoresAndSteps (i : Instr) (op : Byte) (delta : Nat) : Prop :=
  Encodes [op] i ⟨1, Config.codeNone⟩ ∧
    ∀ s, Runs i ⟨1, Config.codeNone⟩ s fun t =>
      t.readByte (s.reg16 .HL) = s.reg .A ∧ t.reg16 .HL = w16 ((s.reg16 .HL).toNat + delta) ∧ t.flags = s.flags ∧
        t.pc = s.pc + 1 ∧ Frame [.H, .L] [s.reg16 .HL] (s.hold ⟨1, Config.codeNone⟩) t

/-- A form that loads A from HL and then adds `delta` to HL. -/
def LoadsAndSteps (i : Instr) (op : Byte) (delta : Nat) : Prop :=
  Encodes [op] i ⟨1, Config.codeNone⟩ ∧
    ∀ s, Runs i ⟨1, Config.codeNone⟩ s fun t =>
      t.reg .A = s.readByte (s.reg16 .HL) ∧ t.reg16 .HL = w16 ((s.reg16 .HL).toNat + delta) ∧ t.flags = s.flags ∧
        t.pc = s.pc + 1 ∧ Frame [.A, .H, .L] [] (s.hold ⟨1, Config.codeNone⟩) t

/-- What a forced or keeping symbol of a flag-effect code says of the flag (R32). -/
def obeys (sym : FlagSym) (old new : Bool) : Prop :=
  (sym = .force0 → new = false) ∧ (sym = .force1 → new = true) ∧ (sym = .keep → new = old)

/-- The bytes at PC and after it, at addresses modulo 65536, as many as the longest form has (R51, R70); one byte alone for the
prefix byte at 0xFFFF, which no byte follows (R75). -/
def bytesAtPc (s : State) : List Byte :=
  let b0 := s.readByte s.pc
  if s.pc = 0xFFFF ∧ b0 = s.params.prefixByte then [b0]
  else b0 :: [1, 2, 3].map fun k => s.readByte (w16 (s.pc.toNat + k))

/-- The eleven keys the reference table does not have (R79). -/
def holes : List Byte := [0xD3, 0xDB, 0xDD, 0xE3, 0xE4, 0xEB, 0xEC, 0xED, 0xF4, 0xFC, 0xFD]

/-- The flag a symbol leaves when nothing is computed (R33). -/
def forced (sym : FlagSym) (old : Bool) : Bool :=
  if sym = .force0 then false else if sym = .force1 then true else old

end Sys2Proof.Claims

open Sys2Proof.Claims

/-! ### Arithmetic -/

/-- R86, R88, R89, R90: ADD A,x for a register, (HL) and d8. -/
def Obligations.AddWritesSumAndFlags : Prop :=
  (∀ x, Encodes [0x80 ||| x.code] (Instr.addLoc x) ⟨1, Config.codeZ0HC⟩ ∧
    ∀ s, Runs (Instr.addLoc x) ⟨1, Config.codeZ0HC⟩ s (Added s ⟨1, Config.codeZ0HC⟩ (s.loc8 x))) ∧
  ∀ n, Encodes [0xC6, n] (.add_A_d8 n) ⟨2, Config.codeZ0HC⟩ ∧
    ∀ s, Runs (.add_A_d8 n) ⟨2, Config.codeZ0HC⟩ s (Added s ⟨2, Config.codeZ0HC⟩ n)

/-- R91: ADD HL,rr. -/
def Obligations.AddHLWritesSumAndFlags : Prop :=
  ∀ r, Encodes [0x09 ||| field r.code 4] (Instr.addHLReg16 r) ⟨1, Config.codek0HC⟩ ∧
    ∀ s, Runs (Instr.addHLReg16 r) ⟨1, Config.codek0HC⟩ s
      (WroteReg16 s ⟨1, Config.codek0HC⟩ .HL (w16 ((s.reg16 .HL).toNat + (s.reg16 r).toNat))
        ⟨s.flags.z, false, decide ((s.reg16 .HL).toNat % 4096 + (s.reg16 r).toNat % 4096 > 0x0FFF),
          decide ((s.reg16 .HL).toNat + (s.reg16 r).toNat > 0xFFFF)⟩)

/-- R87, R92, R93, R94: SUB x for a register, (HL) and d8. -/
def Obligations.SubWritesDifferenceAndFlags : Prop :=
  (∀ x, Encodes [0x90 ||| x.code] (Instr.subLoc x) ⟨1, Config.codeZ1HC⟩ ∧
    ∀ s, Runs (Instr.subLoc x) ⟨1, Config.codeZ1HC⟩ s (Subtracted s ⟨1, Config.codeZ1HC⟩ (s.loc8 x))) ∧
  ∀ n, Encodes [0xD6, n] (.sub_d8 n) ⟨2, Config.codeZ1HC⟩ ∧
    ∀ s, Runs (.sub_d8 n) ⟨2, Config.codeZ1HC⟩ s (Subtracted s ⟨2, Config.codeZ1HC⟩ n)

/-- R95, R96, R97: CP x for a register, (HL) and d8; A and memory are unchanged. -/
def Obligations.CompareSetsFlagsOnly : Prop :=
  (∀ x, Encodes [0xB8 ||| x.code] (Instr.cpLoc x) ⟨1, Config.codeZ1HC⟩ ∧
    ∀ s, Runs (Instr.cpLoc x) ⟨1, Config.codeZ1HC⟩ s (Compared s ⟨1, Config.codeZ1HC⟩ (s.loc8 x))) ∧
  ∀ n, Encodes [0xFE, n] (.cp_d8 n) ⟨2, Config.codeZ1HC⟩ ∧
    ∀ s, Runs (.cp_d8 n) ⟨2, Config.codeZ1HC⟩ s (Compared s ⟨2, Config.codeZ1HC⟩ n)

/-- R98, R99: INC r and INC (HL). -/
def Obligations.IncByteResult : Prop :=
  ∀ x, Encodes [0x04 ||| field x.code 3] (Instr.incLoc x) ⟨1, Config.codeZ0Hk⟩ ∧
    ∀ s, Runs (Instr.incLoc x) ⟨1, Config.codeZ0Hk⟩ s
      (WroteLoc s ⟨1, Config.codeZ0Hk⟩ x (BitVec.ofNat 8 ((s.loc8 x).toNat + 1))
        ⟨decide ((s.loc8 x).toNat = 0xFF), false, decide ((s.loc8 x).toNat % 16 = 0x0F), s.flags.c⟩)

/-- R101, R102: DEC r and DEC (HL). -/
def Obligations.DecByteResult : Prop :=
  ∀ x, Encodes [0x05 ||| field x.code 3] (Instr.decLoc x) ⟨1, Config.codeZ1Hk⟩ ∧
    ∀ s, Runs (Instr.decLoc x) ⟨1, Config.codeZ1Hk⟩ s
      (WroteLoc s ⟨1, Config.codeZ1Hk⟩ x (BitVec.ofNat 8 ((s.loc8 x).toNat + 255))
        ⟨decide ((s.loc8 x).toNat = 1), true, decide ((s.loc8 x).toNat % 16 = 0), s.flags.c⟩)

/-- R100, R103: INC rr and DEC rr wrap and change no flag. -/
def Obligations.IncDecWordResult : Prop :=
  ∀ r, Encodes [0x03 ||| field r.code 4] (Instr.incReg16 r) ⟨1, Config.codeNone⟩ ∧
    Encodes [0x0B ||| field r.code 4] (Instr.decReg16 r) ⟨1, Config.codeNone⟩ ∧
    ∀ s, Runs (Instr.incReg16 r) ⟨1, Config.codeNone⟩ s
        (WroteReg16 s ⟨1, Config.codeNone⟩ r (w16 ((s.reg16 r).toNat + 1)) s.flags) ∧
      Runs (Instr.decReg16 r) ⟨1, Config.codeNone⟩ s
        (WroteReg16 s ⟨1, Config.codeNone⟩ r (w16 ((s.reg16 r).toNat + 65535)) s.flags)

/-! ### Logic, single-bit test, rotate -/

/-- R104 to R106, R107 to R109, R110 to R112: AND x, XOR x, OR x for a register, (HL) and d8. -/
def Obligations.LogicResults : Prop :=
  (∀ x, Encodes [0xA0 ||| x.code] (Instr.andLoc x) ⟨1, Config.codeZ010⟩ ∧
    Encodes [0xA8 ||| x.code] (Instr.xorLoc x) ⟨1, Config.codeZ000⟩ ∧
    Encodes [0xB0 ||| x.code] (Instr.orLoc x) ⟨1, Config.codeZ000⟩ ∧
    ∀ s, Runs (Instr.andLoc x) ⟨1, Config.codeZ010⟩ s
        (WroteA s ⟨1, Config.codeZ010⟩ (s.reg .A &&& s.loc8 x) ⟨decide (s.reg .A &&& s.loc8 x = 0), false, true, false⟩) ∧
      Runs (Instr.xorLoc x) ⟨1, Config.codeZ000⟩ s
        (WroteA s ⟨1, Config.codeZ000⟩ (s.reg .A ^^^ s.loc8 x) ⟨decide (s.reg .A = s.loc8 x), false, false, false⟩) ∧
      Runs (Instr.orLoc x) ⟨1, Config.codeZ000⟩ s
        (WroteA s ⟨1, Config.codeZ000⟩ (s.reg .A ||| s.loc8 x)
          ⟨decide (s.reg .A = 0 ∧ s.loc8 x = 0), false, false, false⟩)) ∧
  ∀ n, Encodes [0xE6, n] (.and_d8 n) ⟨2, Config.codeZ010⟩ ∧ Encodes [0xEE, n] (.xor_d8 n) ⟨2, Config.codeZ000⟩ ∧
    Encodes [0xF6, n] (.or_d8 n) ⟨2, Config.codeZ000⟩ ∧
    ∀ s, Runs (.and_d8 n) ⟨2, Config.codeZ010⟩ s
        (WroteA s ⟨2, Config.codeZ010⟩ (s.reg .A &&& n) ⟨decide (s.reg .A &&& n = 0), false, true, false⟩) ∧
      Runs (.xor_d8 n) ⟨2, Config.codeZ000⟩ s
        (WroteA s ⟨2, Config.codeZ000⟩ (s.reg .A ^^^ n) ⟨decide (s.reg .A = n), false, false, false⟩) ∧
      Runs (.or_d8 n) ⟨2, Config.codeZ000⟩ s
        (WroteA s ⟨2, Config.codeZ000⟩ (s.reg .A ||| n) ⟨decide (s.reg .A = 0 ∧ n = 0), false, false, false⟩)

/-- R113, R114: BIT b,r and BIT b,(HL): Z is the complement of bit b, nothing but flags is written. -/
def Obligations.BitTestSetsZ : Prop :=
  ∀ b x, Encodes [0xCB, 0x40 ||| field b.code 3 ||| x.code] (Instr.bitLoc b x) ⟨2, Config.codeZ01k⟩ ∧
    ∀ s, Runs (Instr.bitLoc b x) ⟨2, Config.codeZ01k⟩ s
      (SetFlags s ⟨2, Config.codeZ01k⟩ ⟨!(s.loc8 x).getLsbD b.val, false, true, s.flags.c⟩)

/-- R115 to R118: RL r and RL (HL), the 9-bit rotate through the carry, and RLA, which rotates A so but forces Z to 0. -/
def Obligations.RotateLeftThroughCarry : Prop :=
  (∀ x, Encodes [0xCB, 0x10 ||| x.code] (Instr.rlLoc x) ⟨2, Config.codeZ00C⟩ ∧
    ∀ s, Runs (Instr.rlLoc x) ⟨2, Config.codeZ00C⟩ s
      (WroteLoc s ⟨2, Config.codeZ00C⟩ x (rotated (s.loc8 x) s.flags.c)
        ⟨decide (rotated (s.loc8 x) s.flags.c = 0), false, false, (s.loc8 x).getLsbD 7⟩)) ∧
  Encodes [0x17] .rla ⟨1, Config.code000C⟩ ∧
    ∀ s, Runs .rla ⟨1, Config.code000C⟩ s
      (WroteA s ⟨1, Config.code000C⟩ (rotated (s.reg .A) s.flags.c) ⟨false, false, false, (s.reg .A).getLsbD 7⟩)

/-! ### Loads and stores -/

/-- R120, R121: LD r,r2 and LD r,d8. -/
def Obligations.LoadRegister : Prop :=
  (∀ d x, Encodes [0x40 ||| field d.code 3 ||| x.code] (Instr.ldRegReg d x) ⟨1, Config.codeNone⟩ ∧
    ∀ s, Runs (Instr.ldRegReg d x) ⟨1, Config.codeNone⟩ s (WroteLoc s ⟨1, Config.codeNone⟩ (.reg d) (s.reg x) s.flags)) ∧
  ∀ d n, Encodes [0x06 ||| field d.code 3, n] (Instr.ldRegImm d n) ⟨2, Config.codeNone⟩ ∧
    ∀ s, Runs (Instr.ldRegImm d n) ⟨2, Config.codeNone⟩ s (WroteLoc s ⟨2, Config.codeNone⟩ (.reg d) n s.flags)

/-- R122, R123: LD rr,d16, little-endian, and LD SP,HL. -/
def Obligations.LoadRegister16 : Prop :=
  (∀ r lo hi, Encodes [0x01 ||| field r.code 4, lo, hi] (Instr.ldReg16Imm r (ofBytes hi lo)) ⟨3, Config.codeNone⟩ ∧
    ∀ s, Runs (Instr.ldReg16Imm r (ofBytes hi lo)) ⟨3, Config.codeNone⟩ s
      (WroteReg16 s ⟨3, Config.codeNone⟩ r (w16 (hi.toNat * 256 + lo.toNat)) s.flags)) ∧
  Encodes [0xF9] .ld_SP_HL ⟨1, Config.codeNone⟩ ∧
    ∀ s, Runs .ld_SP_HL ⟨1, Config.codeNone⟩ s (WroteReg16 s ⟨1, Config.codeNone⟩ .SP (s.reg16 .HL) s.flags)

/-- R124, R125, R126: LD r,(HL), LD (HL),r and LD (HL),d8. -/
def Obligations.LoadStoreThroughHL : Prop :=
  (∀ d, Encodes [0x46 ||| field d.code 3] (Instr.ldRegInd d) ⟨1, Config.codeNone⟩ ∧
    ∀ s, Runs (Instr.ldRegInd d) ⟨1, Config.codeNone⟩ s
      (WroteLoc s ⟨1, Config.codeNone⟩ (.reg d) (s.readByte (s.reg16 .HL)) s.flags)) ∧
  (∀ x, Encodes [0x70 ||| x.code] (Instr.ldIndReg x) ⟨1, Config.codeNone⟩ ∧
    ∀ s, Runs (Instr.ldIndReg x) ⟨1, Config.codeNone⟩ s (Stored s ⟨1, Config.codeNone⟩ (s.reg16 .HL) (s.reg x))) ∧
  ∀ n, Encodes [0x36, n] (.ld_indHL_d8 n) ⟨2, Config.codeNone⟩ ∧
    ∀ s, Runs (.ld_indHL_d8 n) ⟨2, Config.codeNone⟩ s (Stored s ⟨2, Config.codeNone⟩ (s.reg16 .HL) n)

/-- R127 to R130: LD (HL+),A and LD (HL-),A store at the old HL, LD A,(HL+) and LD A,(HL-) load from it; then HL steps up or down,
with wrap. -/
def Obligations.LoadStoreAndStepHL : Prop :=
  StoresAndSteps .ld_indHLinc_A 0x22 1 ∧ StoresAndSteps .ld_indHLdec_A 0x32 65535 ∧
    LoadsAndSteps .ld_A_indHLinc 0x2A 1 ∧ LoadsAndSteps .ld_A_indHLdec 0x3A 65535

/-- R131, R132: LD (BC),A, LD (DE),A, LD A,(BC), LD A,(DE). -/
def Obligations.LoadStoreThroughBCAndDE : Prop :=
  Encodes [0x02] .ld_indBC_A ⟨1, Config.codeNone⟩ ∧ Encodes [0x12] .ld_indDE_A ⟨1, Config.codeNone⟩ ∧
  Encodes [0x0A] .ld_A_indBC ⟨1, Config.codeNone⟩ ∧ Encodes [0x1A] .ld_A_indDE ⟨1, Config.codeNone⟩ ∧
  ∀ s, Runs .ld_indBC_A ⟨1, Config.codeNone⟩ s (Stored s ⟨1, Config.codeNone⟩ (s.reg16 .BC) (s.reg .A)) ∧
    Runs .ld_indDE_A ⟨1, Config.codeNone⟩ s (Stored s ⟨1, Config.codeNone⟩ (s.reg16 .DE) (s.reg .A)) ∧
    Runs .ld_A_indBC ⟨1, Config.codeNone⟩ s (WroteA s ⟨1, Config.codeNone⟩ (s.readByte (s.reg16 .BC)) s.flags) ∧
    Runs .ld_A_indDE ⟨1, Config.codeNone⟩ s (WroteA s ⟨1, Config.codeNone⟩ (s.readByte (s.reg16 .DE)) s.flags)

/-- R133, R134: LD (a16),A and LD A,(a16). -/
def Obligations.LoadStoreAbsolute : Prop :=
  ∀ lo hi, Encodes [0xEA, lo, hi] (.ld_indA16_A (ofBytes hi lo)) ⟨3, Config.codeNone⟩ ∧
    Encodes [0xFA, lo, hi] (.ld_A_indA16 (ofBytes hi lo)) ⟨3, Config.codeNone⟩ ∧
    ∀ s, Runs (.ld_indA16_A (ofBytes hi lo)) ⟨3, Config.codeNone⟩ s
        (Stored s ⟨3, Config.codeNone⟩ (w16 (hi.toNat * 256 + lo.toNat)) (s.reg .A)) ∧
      Runs (.ld_A_indA16 (ofBytes hi lo)) ⟨3, Config.codeNone⟩ s
        (WroteA s ⟨3, Config.codeNone⟩ (s.readByte (w16 (hi.toNat * 256 + lo.toNat))) s.flags)

/-- R135: LD (a16),SP stores SP little-endian; at 0xFFFF its high byte goes to 0x0000. -/
def Obligations.StoreSPAbsolute : Prop :=
  ∀ lo hi, Encodes [0x08, lo, hi] (.ld_indA16_SP (ofBytes hi lo)) ⟨3, Config.codeNone⟩ ∧
    ∀ s, Runs (.ld_indA16_SP (ofBytes hi lo)) ⟨3, Config.codeNone⟩ s fun t =>
      (t.readByte (w16 (hi.toNat * 256 + lo.toNat))).toNat = (s.reg16 .SP).toNat % 256 ∧
        (t.readByte (w16 (hi.toNat * 256 + lo.toNat + 1))).toNat = (s.reg16 .SP).toNat / 256 ∧ t.flags = s.flags ∧
        t.pc = s.pc + 3 ∧
        Frame [] [w16 (hi.toNat * 256 + lo.toNat), w16 (hi.toNat * 256 + lo.toNat + 1)] (s.hold ⟨3, Config.codeNone⟩) t

/-- R136, R137, R138, R139: LD (C),A, LD A,(C), LDH (a8),A, LDH A,(a8), at 0xFF00 plus the offset. -/
def Obligations.LoadStoreIoShortForms : Prop :=
  Encodes [0xE2] .ld_indC_A ⟨1, Config.codeNone⟩ ∧ Encodes [0xF2] .ld_A_indC ⟨1, Config.codeNone⟩ ∧
  (∀ s, Runs .ld_indC_A ⟨1, Config.codeNone⟩ s
      (Stored s ⟨1, Config.codeNone⟩ (w16 (0xFF00 + (s.reg .C).toNat)) (s.reg .A)) ∧
    Runs .ld_A_indC ⟨1, Config.codeNone⟩ s
      (WroteA s ⟨1, Config.codeNone⟩ (s.readByte (w16 (0xFF00 + (s.reg .C).toNat))) s.flags)) ∧
  ∀ n, Encodes [0xE0, n] (.ldh_indA8_A n) ⟨2, Config.codeNone⟩ ∧ Encodes [0xF0, n] (.ldh_A_indA8 n) ⟨2, Config.codeNone⟩ ∧
    ∀ s, Runs (.ldh_indA8_A n) ⟨2, Config.codeNone⟩ s
        (Stored s ⟨2, Config.codeNone⟩ (w16 (0xFF00 + n.toNat)) (s.reg .A)) ∧
      Runs (.ldh_A_indA8 n) ⟨2, Config.codeNone⟩ s
        (WroteA s ⟨2, Config.codeNone⟩ (s.readByte (w16 (0xFF00 + n.toNat))) s.flags)

/-! ### Control transfer and stack -/

namespace Sys2Proof.Claims

/-- The condition table (R140). -/
def holds : Cond → Flags → Prop
  | .NZ, f => f.z = false
  | .Z, f => f.z = true
  | .NC, f => f.c = false
  | .C, f => f.c = true

/-- The target of a relative jump (R142). -/
def relTarget (s : State) (n : Byte) : Word := BitVec.ofInt 16 ((s.pc.toNat : Int) + 2 + signed n)

end Sys2Proof.Claims

/-- R142, R143, R140: JR and JR cc, taken and not taken. -/
def Obligations.RelativeJumps : Prop :=
  ∀ n, Encodes [0x18, n] (.jr_r8 n) ⟨2, Config.codeNone⟩ ∧
    (∀ s, Runs (.jr_r8 n) ⟨2, Config.codeNone⟩ s (Jumped s ⟨2, Config.codeNone⟩ (relTarget s n))) ∧
    ∀ c, Encodes [0x20 ||| field c.code 3, n] (Instr.jrCond c n) ⟨2, Config.codeNone⟩ ∧
      ∀ s, (holds c s.flags → Runs (Instr.jrCond c n) ⟨2, Config.codeNone⟩ s (Jumped s ⟨2, Config.codeNone⟩ (relTarget s n))) ∧
        (¬ holds c s.flags → Runs (Instr.jrCond c n) ⟨2, Config.codeNone⟩ s (Jumped s ⟨2, Config.codeNone⟩ (s.pc + 2)))

/-- R144, R145: CALL and CALL cc push the address of the following instruction; a call not taken writes nothing. -/
def Obligations.CallsPushReturnAddress : Prop :=
  ∀ lo hi, Encodes [0xCD, lo, hi] (.call_a16 (ofBytes hi lo)) ⟨3, Config.codeNone⟩ ∧
    (∀ s, Runs (.call_a16 (ofBytes hi lo)) ⟨3, Config.codeNone⟩ s
      (Pushed s ⟨3, Config.codeNone⟩ (s.pc + 3) (w16 (hi.toNat * 256 + lo.toNat)))) ∧
    ∀ c, Encodes [0xC4 ||| field c.code 3, lo, hi] (Instr.callCond c (ofBytes hi lo)) ⟨3, Config.codeNone⟩ ∧
      ∀ s, (holds c s.flags → Runs (Instr.callCond c (ofBytes hi lo)) ⟨3, Config.codeNone⟩ s
          (Pushed s ⟨3, Config.codeNone⟩ (s.pc + 3) (w16 (hi.toNat * 256 + lo.toNat)))) ∧
        (¬ holds c s.flags → Runs (Instr.callCond c (ofBytes hi lo)) ⟨3, Config.codeNone⟩ s
          (Jumped s ⟨3, Config.codeNone⟩ (s.pc + 3)))

/-- R146, R147: RET and RET cc pop the next PC; IME is unchanged; a return not taken reads and writes nothing. -/
def Obligations.ReturnsPopPC : Prop :=
  Encodes [0xC9] .ret ⟨1, Config.codeNone⟩ ∧
    (∀ s, Runs .ret ⟨1, Config.codeNone⟩ s (Returned s ⟨1, Config.codeNone⟩)) ∧
    ∀ c, Encodes [0xC0 ||| field c.code 3] (Instr.retCond c) ⟨1, Config.codeNone⟩ ∧
      ∀ s, (holds c s.flags → Runs (Instr.retCond c) ⟨1, Config.codeNone⟩ s (Returned s ⟨1, Config.codeNone⟩)) ∧
        (¬ holds c s.flags → Runs (Instr.retCond c) ⟨1, Config.codeNone⟩ s (Jumped s ⟨1, Config.codeNone⟩ (s.pc + 1)))

/-- R148: PUSH qq. -/
def Obligations.PushPairResult : Prop :=
  ∀ p, Encodes [0xC5 ||| field p.code 4] (Instr.pushPair p) ⟨1, Config.codeNone⟩ ∧
    ∀ s, Runs (Instr.pushPair p) ⟨1, Config.codeNone⟩ s (Pushed s ⟨1, Config.codeNone⟩ (s.reg16 p.toReg16) (s.pc + 1))

/-- R149: POP qq. -/
def Obligations.PopPairResult : Prop :=
  ∀ p, Encodes [0xC1 ||| field p.code 4] (Instr.popPair p) ⟨1, Config.codeNone⟩ ∧
    ∀ s, Runs (Instr.popPair p) ⟨1, Config.codeNone⟩ s fun t =>
      t.reg16 p.toReg16 = onStack s ∧ t.reg16 .SP = s.reg16 .SP + 2 ∧ t.flags = s.flags ∧ t.pc = s.pc + 1 ∧
        FrameSp (halves p.toReg16) [] (s.hold ⟨1, Config.codeNone⟩) t

/-- R59: a push followed by a pop gives the value back and restores SP, for every SP. -/
def Obligations.PushThenPopRestores : Prop :=
  ∀ (s : State) (v : Word), (s.push16 v).top16 = v ∧ (s.push16 v).pop16.reg16 .SP = s.reg16 .SP ∧
    ∀ r, (s.push16 v).pop16.reg r = s.reg r

/-! ### System -/

/-- R150: DI clears IME within its own step; IE and IF stay, and the check of the same step vectors nothing. -/
def Obligations.DiClearsIme : Prop :=
  Encodes [0xF3] .di ⟨1, Config.codeNone⟩ ∧
    ∀ s, Runs .di ⟨1, Config.codeNone⟩ s fun t =>
      t.ime = false ∧ t.irq = s.irq ∧ t.flags = s.flags ∧ t.pc = s.pc + 1 ∧ t.boundary = t ∧ t.reg16 .SP = s.reg16 .SP ∧
        RegsUnchangedExcept [] s t ∧ MemUnchangedExcept [] s t ∧ ControlUnchanged (s.hold ⟨1, Config.codeNone⟩) t

/-- R151: NOP changes only PC. -/
def Obligations.NopMovesOn : Prop :=
  Encodes [0x00] .nop ⟨1, Config.codeNone⟩ ∧
    ∀ s, Runs .nop ⟨1, Config.codeNone⟩ s (Jumped s ⟨1, Config.codeNone⟩ (s.pc + 1))

/-- R157, R155, R156, R162: an instruction whose form is outside the admitted subset (R76) completes by recording
UnimplementedInstruction with cur_pc and its name, an absent key and a cut prefix by recording theirs, and nothing else changes; an
admitted form never changes `fault`. Outside are the constructors of RLCA, RRCA, STOP, RRA, DAA, CPL, SCF, CCF, HALT, ADC, SBC, JP,
RST, RETI, ADD SP,r8, POP AF, PUSH AF, LD HL,SP+r8, EI, RLC, RRC, RR, SLA, SRA, SWAP, SRL, RES and SET.
That a faulting instruction is a next state is the model's choice (log 8). -/
def Obligations.FaultsExactlyOutsideAdmitted : Prop :=
  (∀ (i : Instr) (name : FormName) (s : State), i.view = .named name →
    (name.admitted = false → exec i s = .next (s.raise (.unimplementedInstruction s.pc name))) ∧
    (name.admitted = true → ∃ t, exec i s = .next t ∧ t.fault = s.fault)) ∧
  ∀ s : State, (∀ bytes, exec (.absent bytes) s = .next (s.raise (.unknownOpcode s.pc bytes))) ∧
    exec .prefix_CB s = .next (s.raise (.truncatedPrefix s.pc [s.params.prefixByte]))

/-! ### Decoding and encoding -/

/-- The bytes an instruction encodes to, under any table, decode to that instruction with every operand kept; and under the
reference table every named instruction encodes, and the absent keys are its holes. -/
def Obligations.DecodeOfEncode : Prop :=
  (∀ (p : Params) (i : Instr) (bytes tail : List Byte), encode p i = some bytes → (i.view = .truncated → tail = []) →
    (decode p (bytes ++ tail)).instr? = some i) ∧
  (∀ (i : Instr) (name : FormName), i.view = .named name → (encode Config.reference i).isSome = true) ∧
  encode Config.reference .prefix_CB = some [0xCB] ∧ ∀ b ∈ holes, encode Config.reference (.absent [b]) = some [b]

/-- Under the reference table, what the decoder reads as an instruction encodes back to the very bytes of its length. -/
def Obligations.EncodeOfDecode : Prop :=
  ∀ (b0 b1 b2 b3 : Byte) (i : Instr) (e : Entry), decode Config.reference [b0, b1, b2, b3] = .instr i e →
    encode Config.reference i = some ([b0, b1, b2, b3].take e.len)

/-- Words of each family, written out from the spec's encodings, decode to what they stand for. -/
def Obligations.SampleWordsDecode : Prop :=
  [[0x80], [0x39], [0xD6, 0x01], [0xBE], [0x34], [0x0B], [0xE6, 0x81], [0xCB, 0x7C], [0xCB, 0x11], [0x17], [0x78], [0x31, 0xFE, 0xFF],
    [0x32], [0x08, 0x00, 0xC1], [0xE0, 0x24], [0x20, 0xFB], [0xCD, 0x95, 0x00], [0xD8], [0xC5], [0xE1], [0xF3], [0x00],
    [0xC3, 0x00, 0x01], [0xCB, 0xBE]].map (fun bytes => (decode Config.reference bytes).instr?) =
  [some .add_A_B, some .add_HL_SP, some (.sub_d8 0x01), some .cp_indHL, some .inc_indHL, some .dec_BC, some (.and_d8 0x81),
    some .bit_7_H, some .rl_C, some .rla, some .ld_A_B, some (.ld_SP_d16 0xFFFE), some .ld_indHLdec_A,
    some (.ld_indA16_SP 0xC100), some (.ldh_indA8_A 0x24), some (.jr_NZ_r8 0xFB), some (.call_a16 0x0095), some .ret_C,
    some .push_BC, some .pop_HL, some .di, some .nop, some (.jp_a16 0x0100), some (.res_b_r .n7 .indHL)]

/-- R79: a hole of the reference map faults UnknownOpcode and changes nothing; every prefixed key is present. -/
def Obligations.HolesFault : Prop :=
  (∀ s : State, s.params = Config.reference → s.readByte s.pc ∈ holes →
    coreStep s = .next (s.raise (.unknownOpcode s.pc [s.readByte s.pc]))) ∧
  (∀ k, sectionEntry Config.table.primary k = none ↔ k ∈ holes) ∧ ∀ k, sectionEntry Config.table.secondary k ≠ none

/-- R155: under any table a byte without an entry faults UnknownOpcode with the address and the offending bytes. -/
def Obligations.AbsentKeyFaults : Prop :=
  ∀ s : State,
    (s.readByte s.pc ≠ s.params.prefixByte → sectionEntry s.params.table.primary (s.readByte s.pc) = none →
      coreStep s = .next (s.raise (.unknownOpcode s.pc [s.readByte s.pc]))) ∧
    (s.readByte s.pc = s.params.prefixByte → s.pc ≠ 0xFFFF →
      sectionEntry s.params.table.secondary (s.readByte (s.pc + 1)) = none →
      coreStep s = .next (s.raise (.unknownOpcode s.pc [s.readByte s.pc, s.readByte (s.pc + 1)])))

/-- R156: a prefix byte at 0xFFFF faults TruncatedPrefix; the fetch does not wrap. -/
def Obligations.PrefixAtLastAddressFaults : Prop :=
  ∀ s : State, s.pc = 0xFFFF → s.readByte 0xFFFF = s.params.prefixByte →
    coreStep s = .next (s.raise (.truncatedPrefix 0xFFFF [s.params.prefixByte]))

/-- R157, for a primary or a prefixed entry of any table whose name no constructor stands for: the step records
UnimplementedInstruction with cur_pc and the name. -/
def Obligations.UnknownNameFaults : Prop :=
  ∀ (s : State) (d : Descriptor), d.name.builder = none →
    (s.readByte s.pc ≠ s.params.prefixByte → sectionEntry s.params.table.primary (s.readByte s.pc) = some d →
      coreStep s = .next (s.raise (.unimplementedInstruction s.pc d.name))) ∧
    (s.readByte s.pc = s.params.prefixByte → s.pc ≠ 0xFFFF →
      sectionEntry s.params.table.secondary (s.readByte (s.pc + 1)) = some d →
      coreStep s = .next (s.raise (.unimplementedInstruction s.pc d.name)))

/-! ### Steps -/

/-- A step at a free boundary runs the instruction the bytes at PC decode to (`bytesAtPc`: R51, R70, R75), with the interrupt
check after it unless it faulted. The host script and the entry field are the model's choice (logs 7, 27). -/
def Obligations.StepRunsDecodedInstruction : Prop :=
  ∀ s : State, s.Free →
    (∀ i e t, decode s.params (bytesAtPc s) = .instr i e → i.suits e = true → exec i (s.hold e) = .next t →
      step s = .next (if t.fault = none then t.postInstructionCheck else t)) ∧
    (∀ i t, decode s.params (bytesAtPc s) = .undecodable i → exec i s = .next t →
      step s = .next (if t.fault = none then t.postInstructionCheck else t))

/-- R161: once `fault` is set no step runs. That later steps answer it is the model's choice (log 8). -/
def Obligations.NoStepAfterFault : Prop :=
  ∀ (s : State) (f : Fault), step s = .fault f ↔ s.fault = some f

/-- R160: a faulting step writes no architectural state but `fault`. The entry in hand is the model's own field (log 27). -/
def Obligations.FaultingStepWritesNothing : Prop :=
  ∀ s t : State, coreStep s = .next t → s.fault = none → t.fault ≠ none → ∃ f e, t = (s.hold e).raise f

/-- With a well-formed table every instruction step completes: it retires an instruction or records a fault. A fault recorded in a
next state, and what a well-formed table is (where it is refused, which lengths), are the model's choice (logs 8, 15, 17). -/
def Obligations.WellFormedTableAlwaysSteps : Prop :=
  ∀ s : State, s.params.table.wellFormed = true → ∃ t, coreStep s = .next t

/-- Every step keeps the invariant. The canonical form of memory is the model's; the host script too (log 7). -/
def Obligations.StepKeepsInv : Prop :=
  ∀ s t : State, s.Inv → step s = .next t → t.Inv

/-- The state after reset meets the invariant.
The reference parameters and DEBUG_MODE false are the model's choice (logs 1, 5). -/
def Obligations.ResetMeetsInv : Prop :=
  State.reset.Inv

/-- Accepted inputs start a run, and every start of a run meets the invariant. -/
def Obligations.LaunchMeetsInv : Prop :=
  ∀ x : Launch, (x.accepted = true → ∃ s, launch x = some s ∧ s.Inv) ∧ ∀ s, launch x = some s → s.Inv

/-- R191 and the configuration part of R38: no step writes the opcode table, PREFIX_BYTE or a handler address; nor IE (R172). -/
def Obligations.StepKeepsConfiguration : Prop :=
  ∀ s t : State, step s = .next t →
    t.params = s.params ∧ t.irq.map (fun src => (src.enable, src.vec)) = s.irq.map fun src => (src.enable, src.vec)

/-- R152: no step sets IME. -/
def Obligations.StepNeverSetsIme : Prop :=
  ∀ s t : State, step s = .next t → s.ime = false → t.ime = false

/-- R39: a pending bit is set only by the host's request, and cleared only by vectoring to that source.
The host script is the model's choice (log 7). -/
def Obligations.PendingBitsChangeOnlySo : Prop :=
  ∀ (s t : State) (i : Nat) (a b : IrqSource), step s = .next t → s.irq[i]? = some a → t.irq[i]? = some b →
    (a.pending = false → b.pending = true → s.host.head? = some (.request i)) ∧
    (a.pending = true → b.pending = false → s.ime = true ∧ t.ime = false ∧ a.enable = true ∧ t.pc = a.vec)

/-! ### Interrupts -/

/-- R169: vectoring to source i. -/
def Obligations.VectoringEffect : Prop :=
  ∀ (s : State) (i : Nat) (src : IrqSource), s.irq[i]? = some src →
    (s.vector i).irq[i]? = some { src with pending := false } ∧ (∀ j, j ≠ i → (s.vector i).irq[j]? = s.irq[j]?) ∧
      (s.vector i).ime = false ∧ (s.vector i).reg16 .SP = s.reg16 .SP - 2 ∧
      ((s.vector i).readByte (s.reg16 .SP - 1)).toNat = s.pc.toNat / 256 ∧
      ((s.vector i).readByte (s.reg16 .SP - 2)).toNat = s.pc.toNat % 256 ∧ (s.vector i).pc = src.vec ∧
      (s.vector i).flags = s.flags ∧ RegsUnchangedExcept [] s (s.vector i) ∧
      MemUnchangedExcept [s.reg16 .SP - 1, s.reg16 .SP - 2] s (s.vector i) ∧ (s.vector i).fault = s.fault

/-- R168: with IME false nothing happens; else the first source pending and enabled is vectored to, and only that one. -/
def Obligations.CheckTakesFirstPending : Prop :=
  ∀ s : State, (s.ime = false → s.postInstructionCheck = s) ∧
    (s.ime = true → ((∀ src ∈ s.irq, ¬(src.pending = true ∧ src.enable = true)) → s.postInstructionCheck = s) ∧
      ∀ i src, s.irq[i]? = some src → src.pending = true → src.enable = true →
        (∀ j other, j < i → s.irq[j]? = some other → ¬(other.pending = true ∧ other.enable = true)) →
        s.postInstructionCheck = s.vector i)

/-- R167: a request sets that source's pending bit and nothing else; one outside [0, N_IRQ) is refused.
The host script and the refusal are the model's choice (logs 7, 11). -/
def Obligations.RequestSetsPending : Prop :=
  ∀ (s : State) (i : Nat) (rest : List HostMove), s.fault = none → s.ended = false → s.host = .request i :: rest →
    (i < s.irq.length → ∃ t, step s = .next t ∧ t.irq[i]? = s.irq[i]?.map (fun src => { src with pending := true }) ∧
      (∀ j, j ≠ i → t.irq[j]? = s.irq[j]?) ∧ t = { s with host := rest, irq := t.irq }) ∧
    (s.irq.length ≤ i → step s = .refused .noSuchMove)

/-! ### The debug sequencer -/

/-- R179: the gate pauses at a breakpoint and while stepping, and the pause is a step of its own; otherwise it does nothing.
That a pause is a step of its own is the model's choice (log 7). -/
def Obligations.GatePauses : Prop :=
  ∀ s : State, s.fault = none → s.ended = false → s.suspended = false → s.host = [] →
    (some s.pc ∈ s.bp → step s = .next { s with mode := .pausedAtBreakpoint, stepping := true, suspended := true }) ∧
    (some s.pc ∉ s.bp → s.stepping = true →
      step s = .next { s with mode := .steppingOneInstruction, suspended := true }) ∧
    (some s.pc ∉ s.bp → s.stepping = false → step s = coreStep s)

/-- R181: neither the gate nor a command changes architectural state. -/
def Obligations.DebugKeepsArchitecture : Prop :=
  ∀ (s : State) (line : List Char), SameArch s s.gate ∧ SameArch s (s.command line)

/-- R183: `step` and empty input run one instruction at once, with `stepping` as it was.
The host script and the replies are the model's choice (logs 7, 13). -/
def Obligations.StepCommandRunsOne : Prop :=
  ∀ (s : State) (line : List Char) (rest : List HostMove), parseCommand line = some .stepOne → s.fault = none → s.ended = false →
    s.suspended = true → s.host = .command line :: rest →
    step s = coreStep { s with host := rest, suspended := false, replies := s.replies ++ [.ack] }

/-- R184: `continue` and `c` run the instruction at PC at once, without a second gate, and leave `stepping` false.
The host script and the replies are the model's choice (logs 7, 13). -/
def Obligations.ContinueRunsOn : Prop :=
  ∀ (s : State) (line : List Char) (rest : List HostMove), parseCommand line = some .resume → s.fault = none →
    s.ended = false → s.suspended = true → s.host = .command line :: rest →
    step s = coreStep { s with
      host := rest, suspended := false, stepping := false, mode := .running, replies := s.replies ++ [.ack] }

/-- R185: `break` appends a slot and reports the length of BP after it; execution stays suspended.
The list of replies is the model's choice (log 13). -/
def Obligations.BreakAppendsSlot : Prop :=
  ∀ (s : State) (line : List Char) (a : Word), parseCommand line = some (.setBreak a) →
    s.command line = { s with bp := s.bp ++ [some a], replies := s.replies ++ [.index (s.bp ++ [some a]).length] }

/-- R186: `delete k` removes slot k and renumbers nothing; an index of no live slot is InvalidDebugCommand.
The list of replies is the model's choice (log 13). -/
def Obligations.DeleteLeavesGap : Prop :=
  ∀ (s : State) (line : List Char) (k : Nat), parseCommand line = some (.deleteSlot k) →
    1 ≤ k ∧ (s.command line).suspended = s.suspended ∧ (s.command line).bp.length = s.bp.length ∧
      (∀ j, j ≠ k - 1 → (s.command line).bp[j]? = s.bp[j]?) ∧
      ((∃ a, s.bp[k - 1]? = some (some a)) → (s.command line).bp[k - 1]? = some none) ∧
      (¬(∃ a, s.bp[k - 1]? = some (some a)) → s.command line = { s with replies := s.replies ++ [.invalidDebugCommand] })

/-- R187: what the grammar rejects changes no state, and execution stays suspended.
The host script and the replies are the model's choice (logs 7, 13). -/
def Obligations.InvalidCommandChangesNothing : Prop :=
  ∀ (s : State) (line : List Char) (rest : List HostMove), parseCommand line = none → s.fault = none → s.ended = false →
    s.suspended = true → s.host = .command line :: rest →
    step s = .next { s with host := rest, replies := s.replies ++ [.invalidDebugCommand] }

/-- Lines of traces D1 to D3, read by the grammar of R182. -/
def Obligations.GrammarReadsTraceLines : Prop :=
  ["  step  ", "", "c", "continue", "b 336", "break 0x82", "break 0x0150", "d 1", "d 0", "delete 3", "break 0x10000", "b 0x", "foo",
    "step now"].map (fun line => parseCommand line.toList) =
  [some .stepOne, some .stepOne, some .resume, some .resume, some (.setBreak 336), some (.setBreak 0x82),
    some (.setBreak 0x0150), some (.deleteSlot 1), none, some (.deleteSlot 3), none, none, none, none]

/-! ### State and start -/

/-- R23, R24: a composite register is the live combination of its halves, and a write of it writes both and no other register. -/
def Obligations.CompositeIsItsHalves : Prop :=
  ∀ (s : State) (p : Pair) (hi lo : Reg8), (p, hi, lo) ∈ [(Pair.BC, Reg8.B, Reg8.C), (.DE, .D, .E), (.HL, .H, .L)] →
    (s.reg16 p.toReg16).toNat = (s.reg hi).toNat * 256 + (s.reg lo).toNat ∧
      ∀ v, ((s.setReg16 p.toReg16 v).reg hi).toNat = v.toNat / 256 ∧
        ((s.setReg16 p.toReg16 v).reg lo).toNat = v.toNat % 256 ∧
        (∀ r, r ≠ hi → r ≠ lo → (s.setReg16 p.toReg16 v).reg r = s.reg r) ∧
        (s.setReg16 p.toReg16 v).reg16 .SP = s.reg16 .SP ∧ (s.setReg16 p.toReg16 v).pc = s.pc

/-- R49: a 16-bit value lies low byte first, its high byte at the next address modulo 65536. -/
def Obligations.WordsAreLittleEndian : Prop :=
  ∀ (s : State) (a v : Word), ((s.writeWord a v).readByte a).toNat = v.toNat % 256 ∧
    ((s.writeWord a v).readByte (a + 1)).toNat = v.toNat / 256 ∧ (s.writeWord a v).readWord a = v

/-- R33: an instruction without a numeric result still takes forced flags, and keeps the others. -/
def Obligations.NoResultTakesForcedFlags : Prop :=
  ∀ (i : Instr) (name : FormName) (e : Entry) (s t : State), i.view = .named name → name.computes = some ⟨false, false, false⟩ →
    exec i (s.hold e) = .next t →
    t.flags = ⟨forced e.flags.z s.flags.z, forced e.flags.n s.flags.n, forced e.flags.h s.flags.h, forced e.flags.c s.flags.c⟩

/-- R32: after every admitted form, under any flag-effect code, a forced symbol forces its flag and `-` keeps it. -/
def Obligations.CodeForcesAndKeepsFlags : Prop :=
  ∀ (i : Instr) (name : FormName) (e : Entry) (s t : State), i.view = .named name → name.admitted = true →
    exec i (s.hold e) = .next t →
    obeys e.flags.z s.flags.z t.flags.z ∧ obeys e.flags.n s.flags.n t.flags.n ∧ obeys e.flags.h s.flags.h t.flags.h ∧
      obeys e.flags.c s.flags.c t.flags.c

/-- R36, R192, R193, R196, R197: which inputs start a run, and what it starts with. That launch values of memory come in canonical
form is the model's choice (log 29). -/
def Obligations.StartValues : Prop :=
  ∀ x : Launch, (65536 < x.seed.length → launch x = none) ∧
    (x.params.table.wellFormed = false → launch x = none) ∧
    (x.accepted = true ↔ x.params.table.wellFormed = true ∧ x.seed.length ≤ 65536 ∧ x.mem.wf = true) ∧
    (x.accepted = true → ∃ s, launch x = some s) ∧
    ∀ s, launch x = some s →
      s.pc = 0 ∧ s.bp = [] ∧ s.fault = none ∧ s.stepping = x.debugMode ∧
        s.mode = (if x.debugMode then .steppingOneInstruction else .running) ∧
        (∀ (a : Word) (h : a.toNat < x.seed.length), s.readByte a = x.seed[a.toNat]) ∧
        (∀ a : Word, x.seed.length ≤ a.toNat → s.readByte a = x.mem.read a.toNat) ∧
        s.regs = x.regs ∧ s.flags = x.flags ∧ s.ime = x.ime ∧ s.irq = x.irq ∧ s.params = x.params
end

