-- ==== Sys2Proof/Laws/State.lean ====
section
/-! SUPPORT. For every named update of the state, what each field is afterwards. -/
namespace Sys2Proof.Machine

@[simp] theorem State.setReg_pc (s : State) (r : Reg8) (v : Byte) : (s.setReg r v).pc = s.pc := by cases r <;> rfl
@[simp] theorem State.setReg_flags (s : State) (r : Reg8) (v : Byte) : (s.setReg r v).flags = s.flags := by cases r <;> rfl
@[simp] theorem State.setReg_mem (s : State) (r : Reg8) (v : Byte) : (s.setReg r v).mem = s.mem := by cases r <;> rfl
@[simp] theorem State.setReg_ime (s : State) (r : Reg8) (v : Byte) : (s.setReg r v).ime = s.ime := by cases r <;> rfl
@[simp] theorem State.setReg_irq (s : State) (r : Reg8) (v : Byte) : (s.setReg r v).irq = s.irq := by cases r <;> rfl
@[simp] theorem State.setReg_bp (s : State) (r : Reg8) (v : Byte) : (s.setReg r v).bp = s.bp := by cases r <;> rfl
@[simp] theorem State.setReg_stepping (s : State) (r : Reg8) (v : Byte) : (s.setReg r v).stepping = s.stepping := by cases r <;> rfl
@[simp] theorem State.setReg_mode (s : State) (r : Reg8) (v : Byte) : (s.setReg r v).mode = s.mode := by cases r <;> rfl
@[simp] theorem State.setReg_fault (s : State) (r : Reg8) (v : Byte) : (s.setReg r v).fault = s.fault := by cases r <;> rfl
@[simp] theorem State.setReg_params (s : State) (r : Reg8) (v : Byte) : (s.setReg r v).params = s.params := by cases r <;> rfl
@[simp] theorem State.setReg_suspended (s : State) (r : Reg8) (v : Byte) : (s.setReg r v).suspended = s.suspended := by cases r <;> rfl
@[simp] theorem State.setReg_entry (s : State) (r : Reg8) (v : Byte) : (s.setReg r v).entry = s.entry := by cases r <;> rfl
@[simp] theorem State.setReg_host (s : State) (r : Reg8) (v : Byte) : (s.setReg r v).host = s.host := by cases r <;> rfl
@[simp] theorem State.setReg_ended (s : State) (r : Reg8) (v : Byte) : (s.setReg r v).ended = s.ended := by cases r <;> rfl
@[simp] theorem State.setReg_replies (s : State) (r : Reg8) (v : Byte) : (s.setReg r v).replies = s.replies := by cases r <;> rfl

@[simp] theorem State.setReg16_pc (s : State) (r : Reg16) (v : Word) : (s.setReg16 r v).pc = s.pc := by cases r <;> rfl
@[simp] theorem State.setReg16_flags (s : State) (r : Reg16) (v : Word) : (s.setReg16 r v).flags = s.flags := by cases r <;> rfl
@[simp] theorem State.setReg16_mem (s : State) (r : Reg16) (v : Word) : (s.setReg16 r v).mem = s.mem := by cases r <;> rfl
@[simp] theorem State.setReg16_ime (s : State) (r : Reg16) (v : Word) : (s.setReg16 r v).ime = s.ime := by cases r <;> rfl
@[simp] theorem State.setReg16_irq (s : State) (r : Reg16) (v : Word) : (s.setReg16 r v).irq = s.irq := by cases r <;> rfl
@[simp] theorem State.setReg16_bp (s : State) (r : Reg16) (v : Word) : (s.setReg16 r v).bp = s.bp := by cases r <;> rfl
@[simp] theorem State.setReg16_stepping (s : State) (r : Reg16) (v : Word) : (s.setReg16 r v).stepping = s.stepping := by cases r <;> rfl
@[simp] theorem State.setReg16_mode (s : State) (r : Reg16) (v : Word) : (s.setReg16 r v).mode = s.mode := by cases r <;> rfl
@[simp] theorem State.setReg16_fault (s : State) (r : Reg16) (v : Word) : (s.setReg16 r v).fault = s.fault := by cases r <;> rfl
@[simp] theorem State.setReg16_params (s : State) (r : Reg16) (v : Word) : (s.setReg16 r v).params = s.params := by cases r <;> rfl
@[simp] theorem State.setReg16_suspended (s : State) (r : Reg16) (v : Word) : (s.setReg16 r v).suspended = s.suspended := by cases r <;> rfl
@[simp] theorem State.setReg16_entry (s : State) (r : Reg16) (v : Word) : (s.setReg16 r v).entry = s.entry := by cases r <;> rfl
@[simp] theorem State.setReg16_host (s : State) (r : Reg16) (v : Word) : (s.setReg16 r v).host = s.host := by cases r <;> rfl
@[simp] theorem State.setReg16_ended (s : State) (r : Reg16) (v : Word) : (s.setReg16 r v).ended = s.ended := by cases r <;> rfl
@[simp] theorem State.setReg16_replies (s : State) (r : Reg16) (v : Word) : (s.setReg16 r v).replies = s.replies := by cases r <;> rfl

@[simp] theorem State.writeByte_regs (s : State) (a : Word) (v : Byte) : (s.writeByte a v).regs = s.regs := rfl
@[simp] theorem State.writeByte_pc (s : State) (a : Word) (v : Byte) : (s.writeByte a v).pc = s.pc := rfl
@[simp] theorem State.writeByte_flags (s : State) (a : Word) (v : Byte) : (s.writeByte a v).flags = s.flags := rfl
@[simp] theorem State.writeByte_mem (s : State) (a : Word) (v : Byte) : (s.writeByte a v).mem = s.mem.write a.toNat v := rfl
@[simp] theorem State.writeByte_ime (s : State) (a : Word) (v : Byte) : (s.writeByte a v).ime = s.ime := rfl
@[simp] theorem State.writeByte_irq (s : State) (a : Word) (v : Byte) : (s.writeByte a v).irq = s.irq := rfl
@[simp] theorem State.writeByte_bp (s : State) (a : Word) (v : Byte) : (s.writeByte a v).bp = s.bp := rfl
@[simp] theorem State.writeByte_stepping (s : State) (a : Word) (v : Byte) : (s.writeByte a v).stepping = s.stepping := rfl
@[simp] theorem State.writeByte_mode (s : State) (a : Word) (v : Byte) : (s.writeByte a v).mode = s.mode := rfl
@[simp] theorem State.writeByte_fault (s : State) (a : Word) (v : Byte) : (s.writeByte a v).fault = s.fault := rfl
@[simp] theorem State.writeByte_params (s : State) (a : Word) (v : Byte) : (s.writeByte a v).params = s.params := rfl
@[simp] theorem State.writeByte_suspended (s : State) (a : Word) (v : Byte) : (s.writeByte a v).suspended = s.suspended := rfl
@[simp] theorem State.writeByte_entry (s : State) (a : Word) (v : Byte) : (s.writeByte a v).entry = s.entry := rfl
@[simp] theorem State.writeByte_host (s : State) (a : Word) (v : Byte) : (s.writeByte a v).host = s.host := rfl
@[simp] theorem State.writeByte_ended (s : State) (a : Word) (v : Byte) : (s.writeByte a v).ended = s.ended := rfl
@[simp] theorem State.writeByte_replies (s : State) (a : Word) (v : Byte) : (s.writeByte a v).replies = s.replies := rfl

@[simp] theorem State.writeWord_regs (s : State) (a v : Word) : (s.writeWord a v).regs = s.regs := rfl
@[simp] theorem State.writeWord_pc (s : State) (a v : Word) : (s.writeWord a v).pc = s.pc := rfl
@[simp] theorem State.writeWord_flags (s : State) (a v : Word) : (s.writeWord a v).flags = s.flags := rfl
@[simp] theorem State.writeWord_ime (s : State) (a v : Word) : (s.writeWord a v).ime = s.ime := rfl
@[simp] theorem State.writeWord_irq (s : State) (a v : Word) : (s.writeWord a v).irq = s.irq := rfl
@[simp] theorem State.writeWord_bp (s : State) (a v : Word) : (s.writeWord a v).bp = s.bp := rfl
@[simp] theorem State.writeWord_stepping (s : State) (a v : Word) : (s.writeWord a v).stepping = s.stepping := rfl
@[simp] theorem State.writeWord_mode (s : State) (a v : Word) : (s.writeWord a v).mode = s.mode := rfl
@[simp] theorem State.writeWord_fault (s : State) (a v : Word) : (s.writeWord a v).fault = s.fault := rfl
@[simp] theorem State.writeWord_params (s : State) (a v : Word) : (s.writeWord a v).params = s.params := rfl
@[simp] theorem State.writeWord_suspended (s : State) (a v : Word) : (s.writeWord a v).suspended = s.suspended := rfl
@[simp] theorem State.writeWord_entry (s : State) (a v : Word) : (s.writeWord a v).entry = s.entry := rfl
@[simp] theorem State.writeWord_host (s : State) (a v : Word) : (s.writeWord a v).host = s.host := rfl
@[simp] theorem State.writeWord_ended (s : State) (a v : Word) : (s.writeWord a v).ended = s.ended := rfl
@[simp] theorem State.writeWord_replies (s : State) (a v : Word) : (s.writeWord a v).replies = s.replies := rfl

@[simp] theorem State.setIme_regs (s : State) (v : Bool) : (s.setIme v).regs = s.regs := rfl
@[simp] theorem State.setIme_pc (s : State) (v : Bool) : (s.setIme v).pc = s.pc := rfl
@[simp] theorem State.setIme_flags (s : State) (v : Bool) : (s.setIme v).flags = s.flags := rfl
@[simp] theorem State.setIme_mem (s : State) (v : Bool) : (s.setIme v).mem = s.mem := rfl
@[simp] theorem State.setIme_ime (s : State) (v : Bool) : (s.setIme v).ime = v := rfl
@[simp] theorem State.setIme_irq (s : State) (v : Bool) : (s.setIme v).irq = s.irq := rfl
@[simp] theorem State.setIme_bp (s : State) (v : Bool) : (s.setIme v).bp = s.bp := rfl
@[simp] theorem State.setIme_stepping (s : State) (v : Bool) : (s.setIme v).stepping = s.stepping := rfl
@[simp] theorem State.setIme_mode (s : State) (v : Bool) : (s.setIme v).mode = s.mode := rfl
@[simp] theorem State.setIme_fault (s : State) (v : Bool) : (s.setIme v).fault = s.fault := rfl
@[simp] theorem State.setIme_params (s : State) (v : Bool) : (s.setIme v).params = s.params := rfl
@[simp] theorem State.setIme_suspended (s : State) (v : Bool) : (s.setIme v).suspended = s.suspended := rfl
@[simp] theorem State.setIme_entry (s : State) (v : Bool) : (s.setIme v).entry = s.entry := rfl
@[simp] theorem State.setIme_host (s : State) (v : Bool) : (s.setIme v).host = s.host := rfl
@[simp] theorem State.setIme_ended (s : State) (v : Bool) : (s.setIme v).ended = s.ended := rfl
@[simp] theorem State.setIme_replies (s : State) (v : Bool) : (s.setIme v).replies = s.replies := rfl

@[simp] theorem State.push16_pc (s : State) (v : Word) : (s.push16 v).pc = s.pc := rfl
@[simp] theorem State.push16_flags (s : State) (v : Word) : (s.push16 v).flags = s.flags := rfl
@[simp] theorem State.push16_ime (s : State) (v : Word) : (s.push16 v).ime = s.ime := rfl
@[simp] theorem State.push16_irq (s : State) (v : Word) : (s.push16 v).irq = s.irq := rfl
@[simp] theorem State.push16_bp (s : State) (v : Word) : (s.push16 v).bp = s.bp := rfl
@[simp] theorem State.push16_stepping (s : State) (v : Word) : (s.push16 v).stepping = s.stepping := rfl
@[simp] theorem State.push16_mode (s : State) (v : Word) : (s.push16 v).mode = s.mode := rfl
@[simp] theorem State.push16_fault (s : State) (v : Word) : (s.push16 v).fault = s.fault := rfl
@[simp] theorem State.push16_params (s : State) (v : Word) : (s.push16 v).params = s.params := rfl
@[simp] theorem State.push16_suspended (s : State) (v : Word) : (s.push16 v).suspended = s.suspended := rfl
@[simp] theorem State.push16_entry (s : State) (v : Word) : (s.push16 v).entry = s.entry := rfl
@[simp] theorem State.push16_host (s : State) (v : Word) : (s.push16 v).host = s.host := rfl
@[simp] theorem State.push16_ended (s : State) (v : Word) : (s.push16 v).ended = s.ended := rfl
@[simp] theorem State.push16_replies (s : State) (v : Word) : (s.push16 v).replies = s.replies := rfl

@[simp] theorem State.pop16_pc (s : State) : (s.pop16).pc = s.pc := rfl
@[simp] theorem State.pop16_flags (s : State) : (s.pop16).flags = s.flags := rfl
@[simp] theorem State.pop16_mem (s : State) : (s.pop16).mem = s.mem := rfl
@[simp] theorem State.pop16_ime (s : State) : (s.pop16).ime = s.ime := rfl
@[simp] theorem State.pop16_irq (s : State) : (s.pop16).irq = s.irq := rfl
@[simp] theorem State.pop16_bp (s : State) : (s.pop16).bp = s.bp := rfl
@[simp] theorem State.pop16_stepping (s : State) : (s.pop16).stepping = s.stepping := rfl
@[simp] theorem State.pop16_mode (s : State) : (s.pop16).mode = s.mode := rfl
@[simp] theorem State.pop16_fault (s : State) : (s.pop16).fault = s.fault := rfl
@[simp] theorem State.pop16_params (s : State) : (s.pop16).params = s.params := rfl
@[simp] theorem State.pop16_suspended (s : State) : (s.pop16).suspended = s.suspended := rfl
@[simp] theorem State.pop16_entry (s : State) : (s.pop16).entry = s.entry := rfl
@[simp] theorem State.pop16_host (s : State) : (s.pop16).host = s.host := rfl
@[simp] theorem State.pop16_ended (s : State) : (s.pop16).ended = s.ended := rfl
@[simp] theorem State.pop16_replies (s : State) : (s.pop16).replies = s.replies := rfl

@[simp] theorem State.hold_regs (s : State) (e : Entry) : (s.hold e).regs = s.regs := rfl
@[simp] theorem State.hold_pc (s : State) (e : Entry) : (s.hold e).pc = s.pc := rfl
@[simp] theorem State.hold_flags (s : State) (e : Entry) : (s.hold e).flags = s.flags := rfl
@[simp] theorem State.hold_mem (s : State) (e : Entry) : (s.hold e).mem = s.mem := rfl
@[simp] theorem State.hold_ime (s : State) (e : Entry) : (s.hold e).ime = s.ime := rfl
@[simp] theorem State.hold_irq (s : State) (e : Entry) : (s.hold e).irq = s.irq := rfl
@[simp] theorem State.hold_bp (s : State) (e : Entry) : (s.hold e).bp = s.bp := rfl
@[simp] theorem State.hold_stepping (s : State) (e : Entry) : (s.hold e).stepping = s.stepping := rfl
@[simp] theorem State.hold_mode (s : State) (e : Entry) : (s.hold e).mode = s.mode := rfl
@[simp] theorem State.hold_fault (s : State) (e : Entry) : (s.hold e).fault = s.fault := rfl
@[simp] theorem State.hold_params (s : State) (e : Entry) : (s.hold e).params = s.params := rfl
@[simp] theorem State.hold_suspended (s : State) (e : Entry) : (s.hold e).suspended = s.suspended := rfl
@[simp] theorem State.hold_entry (s : State) (e : Entry) : (s.hold e).entry = e := rfl
@[simp] theorem State.hold_host (s : State) (e : Entry) : (s.hold e).host = s.host := rfl
@[simp] theorem State.hold_ended (s : State) (e : Entry) : (s.hold e).ended = s.ended := rfl
@[simp] theorem State.hold_replies (s : State) (e : Entry) : (s.hold e).replies = s.replies := rfl

@[simp] theorem State.jump_regs (s : State) (o : Computed) (target : Word) : (s.jump o target).regs = s.regs := rfl
@[simp] theorem State.jump_pc (s : State) (o : Computed) (target : Word) : (s.jump o target).pc = target := rfl
@[simp] theorem State.jump_flags (s : State) (o : Computed) (target : Word) : (s.jump o target).flags = applyFlags s.entry.flags o s.flags := rfl
@[simp] theorem State.jump_mem (s : State) (o : Computed) (target : Word) : (s.jump o target).mem = s.mem := rfl
@[simp] theorem State.jump_ime (s : State) (o : Computed) (target : Word) : (s.jump o target).ime = s.ime := rfl
@[simp] theorem State.jump_irq (s : State) (o : Computed) (target : Word) : (s.jump o target).irq = s.irq := rfl
@[simp] theorem State.jump_bp (s : State) (o : Computed) (target : Word) : (s.jump o target).bp = s.bp := rfl
@[simp] theorem State.jump_stepping (s : State) (o : Computed) (target : Word) : (s.jump o target).stepping = s.stepping := rfl
@[simp] theorem State.jump_mode (s : State) (o : Computed) (target : Word) : (s.jump o target).mode = s.mode := rfl
@[simp] theorem State.jump_fault (s : State) (o : Computed) (target : Word) : (s.jump o target).fault = s.fault := rfl
@[simp] theorem State.jump_params (s : State) (o : Computed) (target : Word) : (s.jump o target).params = s.params := rfl
@[simp] theorem State.jump_suspended (s : State) (o : Computed) (target : Word) : (s.jump o target).suspended = s.suspended := rfl
@[simp] theorem State.jump_entry (s : State) (o : Computed) (target : Word) : (s.jump o target).entry = s.entry := rfl
@[simp] theorem State.jump_host (s : State) (o : Computed) (target : Word) : (s.jump o target).host = s.host := rfl
@[simp] theorem State.jump_ended (s : State) (o : Computed) (target : Word) : (s.jump o target).ended = s.ended := rfl
@[simp] theorem State.jump_replies (s : State) (o : Computed) (target : Word) : (s.jump o target).replies = s.replies := rfl

@[simp] theorem State.retire_regs (s : State) (o : Computed) : (s.retire o).regs = s.regs := rfl
@[simp] theorem State.retire_pc (s : State) (o : Computed) : (s.retire o).pc = s.nextPc := rfl
@[simp] theorem State.retire_flags (s : State) (o : Computed) : (s.retire o).flags = applyFlags s.entry.flags o s.flags := rfl
@[simp] theorem State.retire_mem (s : State) (o : Computed) : (s.retire o).mem = s.mem := rfl
@[simp] theorem State.retire_ime (s : State) (o : Computed) : (s.retire o).ime = s.ime := rfl
@[simp] theorem State.retire_irq (s : State) (o : Computed) : (s.retire o).irq = s.irq := rfl
@[simp] theorem State.retire_bp (s : State) (o : Computed) : (s.retire o).bp = s.bp := rfl
@[simp] theorem State.retire_stepping (s : State) (o : Computed) : (s.retire o).stepping = s.stepping := rfl
@[simp] theorem State.retire_mode (s : State) (o : Computed) : (s.retire o).mode = s.mode := rfl
@[simp] theorem State.retire_fault (s : State) (o : Computed) : (s.retire o).fault = s.fault := rfl
@[simp] theorem State.retire_params (s : State) (o : Computed) : (s.retire o).params = s.params := rfl
@[simp] theorem State.retire_suspended (s : State) (o : Computed) : (s.retire o).suspended = s.suspended := rfl
@[simp] theorem State.retire_entry (s : State) (o : Computed) : (s.retire o).entry = s.entry := rfl
@[simp] theorem State.retire_host (s : State) (o : Computed) : (s.retire o).host = s.host := rfl
@[simp] theorem State.retire_ended (s : State) (o : Computed) : (s.retire o).ended = s.ended := rfl
@[simp] theorem State.retire_replies (s : State) (o : Computed) : (s.retire o).replies = s.replies := rfl

@[simp] theorem State.raise_regs (s : State) (f : Fault) : (s.raise f).regs = s.regs := rfl
@[simp] theorem State.raise_pc (s : State) (f : Fault) : (s.raise f).pc = s.pc := rfl
@[simp] theorem State.raise_flags (s : State) (f : Fault) : (s.raise f).flags = s.flags := rfl
@[simp] theorem State.raise_mem (s : State) (f : Fault) : (s.raise f).mem = s.mem := rfl
@[simp] theorem State.raise_ime (s : State) (f : Fault) : (s.raise f).ime = s.ime := rfl
@[simp] theorem State.raise_irq (s : State) (f : Fault) : (s.raise f).irq = s.irq := rfl
@[simp] theorem State.raise_bp (s : State) (f : Fault) : (s.raise f).bp = s.bp := rfl
@[simp] theorem State.raise_stepping (s : State) (f : Fault) : (s.raise f).stepping = s.stepping := rfl
@[simp] theorem State.raise_mode (s : State) (f : Fault) : (s.raise f).mode = s.mode := rfl
@[simp] theorem State.raise_fault (s : State) (f : Fault) : (s.raise f).fault = some f := rfl
@[simp] theorem State.raise_params (s : State) (f : Fault) : (s.raise f).params = s.params := rfl
@[simp] theorem State.raise_suspended (s : State) (f : Fault) : (s.raise f).suspended = s.suspended := rfl
@[simp] theorem State.raise_entry (s : State) (f : Fault) : (s.raise f).entry = s.entry := rfl
@[simp] theorem State.raise_host (s : State) (f : Fault) : (s.raise f).host = s.host := rfl
@[simp] theorem State.raise_ended (s : State) (f : Fault) : (s.raise f).ended = s.ended := rfl
@[simp] theorem State.raise_replies (s : State) (f : Fault) : (s.raise f).replies = s.replies := rfl

@[simp] theorem State.vector_regs (s : State) (i : Nat) : (s.vector i).regs = (s.push16 s.pc).regs := rfl
@[simp] theorem State.vector_pc (s : State) (i : Nat) : (s.vector i).pc = s.vec i := rfl
@[simp] theorem State.vector_flags (s : State) (i : Nat) : (s.vector i).flags = s.flags := rfl
@[simp] theorem State.vector_mem (s : State) (i : Nat) : (s.vector i).mem = (s.push16 s.pc).mem := rfl
@[simp] theorem State.vector_ime (s : State) (i : Nat) : (s.vector i).ime = false := rfl
@[simp] theorem State.vector_irq (s : State) (i : Nat) : (s.vector i).irq = setPending i false s.irq := rfl
@[simp] theorem State.vector_bp (s : State) (i : Nat) : (s.vector i).bp = s.bp := rfl
@[simp] theorem State.vector_stepping (s : State) (i : Nat) : (s.vector i).stepping = s.stepping := rfl
@[simp] theorem State.vector_mode (s : State) (i : Nat) : (s.vector i).mode = s.mode := rfl
@[simp] theorem State.vector_fault (s : State) (i : Nat) : (s.vector i).fault = s.fault := rfl
@[simp] theorem State.vector_params (s : State) (i : Nat) : (s.vector i).params = s.params := rfl
@[simp] theorem State.vector_suspended (s : State) (i : Nat) : (s.vector i).suspended = s.suspended := rfl
@[simp] theorem State.vector_entry (s : State) (i : Nat) : (s.vector i).entry = s.entry := rfl
@[simp] theorem State.vector_host (s : State) (i : Nat) : (s.vector i).host = s.host := rfl
@[simp] theorem State.vector_ended (s : State) (i : Nat) : (s.vector i).ended = s.ended := rfl
@[simp] theorem State.vector_replies (s : State) (i : Nat) : (s.vector i).replies = s.replies := rfl

@[simp] theorem State.reply_regs (s : State) (r : Reply) : (s.reply r).regs = s.regs := rfl
@[simp] theorem State.reply_pc (s : State) (r : Reply) : (s.reply r).pc = s.pc := rfl
@[simp] theorem State.reply_flags (s : State) (r : Reply) : (s.reply r).flags = s.flags := rfl
@[simp] theorem State.reply_mem (s : State) (r : Reply) : (s.reply r).mem = s.mem := rfl
@[simp] theorem State.reply_ime (s : State) (r : Reply) : (s.reply r).ime = s.ime := rfl
@[simp] theorem State.reply_irq (s : State) (r : Reply) : (s.reply r).irq = s.irq := rfl
@[simp] theorem State.reply_bp (s : State) (r : Reply) : (s.reply r).bp = s.bp := rfl
@[simp] theorem State.reply_stepping (s : State) (r : Reply) : (s.reply r).stepping = s.stepping := rfl
@[simp] theorem State.reply_mode (s : State) (r : Reply) : (s.reply r).mode = s.mode := rfl
@[simp] theorem State.reply_fault (s : State) (r : Reply) : (s.reply r).fault = s.fault := rfl
@[simp] theorem State.reply_params (s : State) (r : Reply) : (s.reply r).params = s.params := rfl
@[simp] theorem State.reply_suspended (s : State) (r : Reply) : (s.reply r).suspended = s.suspended := rfl
@[simp] theorem State.reply_entry (s : State) (r : Reply) : (s.reply r).entry = s.entry := rfl
@[simp] theorem State.reply_host (s : State) (r : Reply) : (s.reply r).host = s.host := rfl
@[simp] theorem State.reply_ended (s : State) (r : Reply) : (s.reply r).ended = s.ended := rfl
@[simp] theorem State.reply_replies (s : State) (r : Reply) : (s.reply r).replies = s.replies ++ [r] := rfl

@[simp] theorem State.setLoc8_pc (s : State) (x : Loc8) (v : Byte) : (s.setLoc8 x v).pc = s.pc := by cases x with
  | reg r => cases r <;> rfl
  | indHL => rfl
@[simp] theorem State.setLoc8_flags (s : State) (x : Loc8) (v : Byte) : (s.setLoc8 x v).flags = s.flags := by cases x with
  | reg r => cases r <;> rfl
  | indHL => rfl
@[simp] theorem State.setLoc8_ime (s : State) (x : Loc8) (v : Byte) : (s.setLoc8 x v).ime = s.ime := by cases x with
  | reg r => cases r <;> rfl
  | indHL => rfl
@[simp] theorem State.setLoc8_irq (s : State) (x : Loc8) (v : Byte) : (s.setLoc8 x v).irq = s.irq := by cases x with
  | reg r => cases r <;> rfl
  | indHL => rfl
@[simp] theorem State.setLoc8_bp (s : State) (x : Loc8) (v : Byte) : (s.setLoc8 x v).bp = s.bp := by cases x with
  | reg r => cases r <;> rfl
  | indHL => rfl
@[simp] theorem State.setLoc8_stepping (s : State) (x : Loc8) (v : Byte) : (s.setLoc8 x v).stepping = s.stepping := by cases x with
  | reg r => cases r <;> rfl
  | indHL => rfl
@[simp] theorem State.setLoc8_mode (s : State) (x : Loc8) (v : Byte) : (s.setLoc8 x v).mode = s.mode := by cases x with
  | reg r => cases r <;> rfl
  | indHL => rfl
@[simp] theorem State.setLoc8_fault (s : State) (x : Loc8) (v : Byte) : (s.setLoc8 x v).fault = s.fault := by cases x with
  | reg r => cases r <;> rfl
  | indHL => rfl
@[simp] theorem State.setLoc8_params (s : State) (x : Loc8) (v : Byte) : (s.setLoc8 x v).params = s.params := by cases x with
  | reg r => cases r <;> rfl
  | indHL => rfl
@[simp] theorem State.setLoc8_suspended (s : State) (x : Loc8) (v : Byte) : (s.setLoc8 x v).suspended = s.suspended := by cases x with
  | reg r => cases r <;> rfl
  | indHL => rfl
@[simp] theorem State.setLoc8_entry (s : State) (x : Loc8) (v : Byte) : (s.setLoc8 x v).entry = s.entry := by cases x with
  | reg r => cases r <;> rfl
  | indHL => rfl
@[simp] theorem State.setLoc8_host (s : State) (x : Loc8) (v : Byte) : (s.setLoc8 x v).host = s.host := by cases x with
  | reg r => cases r <;> rfl
  | indHL => rfl
@[simp] theorem State.setLoc8_ended (s : State) (x : Loc8) (v : Byte) : (s.setLoc8 x v).ended = s.ended := by cases x with
  | reg r => cases r <;> rfl
  | indHL => rfl
@[simp] theorem State.setLoc8_replies (s : State) (x : Loc8) (v : Byte) : (s.setLoc8 x v).replies = s.replies := by cases x with
  | reg r => cases r <;> rfl
  | indHL => rfl

@[simp] theorem State.afterAccess_pc (s : State) (a : Ea) : (s.afterAccess a).pc = s.pc := by cases a <;> rfl
@[simp] theorem State.afterAccess_flags (s : State) (a : Ea) : (s.afterAccess a).flags = s.flags := by cases a <;> rfl
@[simp] theorem State.afterAccess_mem (s : State) (a : Ea) : (s.afterAccess a).mem = s.mem := by cases a <;> rfl
@[simp] theorem State.afterAccess_ime (s : State) (a : Ea) : (s.afterAccess a).ime = s.ime := by cases a <;> rfl
@[simp] theorem State.afterAccess_irq (s : State) (a : Ea) : (s.afterAccess a).irq = s.irq := by cases a <;> rfl
@[simp] theorem State.afterAccess_bp (s : State) (a : Ea) : (s.afterAccess a).bp = s.bp := by cases a <;> rfl
@[simp] theorem State.afterAccess_stepping (s : State) (a : Ea) : (s.afterAccess a).stepping = s.stepping := by cases a <;> rfl
@[simp] theorem State.afterAccess_mode (s : State) (a : Ea) : (s.afterAccess a).mode = s.mode := by cases a <;> rfl
@[simp] theorem State.afterAccess_fault (s : State) (a : Ea) : (s.afterAccess a).fault = s.fault := by cases a <;> rfl
@[simp] theorem State.afterAccess_params (s : State) (a : Ea) : (s.afterAccess a).params = s.params := by cases a <;> rfl
@[simp] theorem State.afterAccess_suspended (s : State) (a : Ea) : (s.afterAccess a).suspended = s.suspended := by cases a <;> rfl
@[simp] theorem State.afterAccess_entry (s : State) (a : Ea) : (s.afterAccess a).entry = s.entry := by cases a <;> rfl
@[simp] theorem State.afterAccess_host (s : State) (a : Ea) : (s.afterAccess a).host = s.host := by cases a <;> rfl
@[simp] theorem State.afterAccess_ended (s : State) (a : Ea) : (s.afterAccess a).ended = s.ended := by cases a <;> rfl
@[simp] theorem State.afterAccess_replies (s : State) (a : Ea) : (s.afterAccess a).replies = s.replies := by cases a <;> rfl

end Sys2Proof.Machine
end

