-- ==== Sys2Proof/Laws/Memory.lean ====
section
/-! SUPPORT. Memory: a read after a write (spec 20_memory R45), and every memory operation keeps the canonical form. -/
namespace Sys2Proof.Machine

/-! ### Reading after an update of the list -/

theorem Memory.read_erase (a b : Nat) (m : Memory) :
    (m.erase a).read b = if b = a then Memory.unlisted else m.read b := by
  induction m with
  | nil => simp [Memory.erase, Memory.read]
  | cons c m ih =>
    obtain ⟨k, v⟩ := c
    by_cases hk : k = a
    · subst hk
      have : Memory.erase k ((k, v) :: m) = Memory.erase k m := by simp [Memory.erase]
      rw [this, ih]
      by_cases hb : b = k
      · simp [hb]
      · simp [hb, Memory.read, Ne.symm hb]
    · have : Memory.erase a ((k, v) :: m) = (k, v) :: Memory.erase a m := by simp [Memory.erase, hk]
      rw [this, Memory.read, Memory.read, ih]
      by_cases hb : k = b
      · subst hb; simp [hk]
      · simp [hb]

theorem Memory.read_insert_other {a b : Nat} (h : b ≠ a) (v : Byte) (m : Memory) :
    (m.insert a v).read b = m.read b := by
  induction m with
  | nil => simp [Memory.insert, Memory.read, Ne.symm h]
  | cons c m ih =>
    obtain ⟨k, w⟩ := c
    unfold Memory.insert
    split
    · simp [Memory.read, Ne.symm h]
    · simp [Memory.read, ih]

theorem Memory.read_insert_self {a : Nat} (v : Byte) (m : Memory) (h : ∀ c ∈ m, c.1 ≠ a) :
    (m.insert a v).read a = v := by
  induction m with
  | nil => simp [Memory.insert, Memory.read]
  | cons c m ih =>
    obtain ⟨k, w⟩ := c
    unfold Memory.insert
    split
    · simp [Memory.read]
    · have hk : k ≠ a := h (k, w) (by simp)
      simp only [Memory.read, hk, if_false]
      exact ih fun c hc => h c (by simp [hc])

theorem Memory.ne_of_mem_erase {a : Nat} {m : Memory} : ∀ c ∈ m.erase a, c.1 ≠ a := by
  intro c hc
  simpa using (List.mem_filter.mp hc).2

/-- A read after a write, for every list. -/
@[simp] theorem Memory.read_write (a b : Nat) (v : Byte) (m : Memory) :
    (m.write a v).read b = if b = a then v else m.read b := by
  unfold Memory.write
  split
  · rename_i hv; rw [Memory.read_erase, hv]
  · split
    · rename_i hb; subst hb; exact Memory.read_insert_self v _ Memory.ne_of_mem_erase
    · rename_i hb; rw [Memory.read_insert_other hb, Memory.read_erase, if_neg hb]

/-- A byte read after a byte written. -/
@[simp] theorem State.readByte_writeByte (s : State) (a b : Word) (v : Byte) :
    (s.writeByte a v).readByte b = if b = a then v else s.readByte b := by
  simp [State.readByte, BitVec.toNat_inj]

/-! ### The canonical form -/

theorem Memory.wfFrom_mono {low low' : Nat} (h : low' ≤ low) {m : Memory} (hm : m.wfFrom low = true) :
    m.wfFrom low' = true := by
  cases m with
  | nil => rfl
  | cons c m =>
    obtain ⟨k, v⟩ := c
    simp only [Memory.wfFrom, Bool.and_eq_true, decide_eq_true_eq] at hm ⊢
    exact ⟨⟨⟨by omega, hm.1.1.2⟩, hm.1.2⟩, hm.2⟩

theorem Memory.wfFrom_erase (a : Nat) {low : Nat} {m : Memory} (hm : m.wfFrom low = true) :
    (m.erase a).wfFrom low = true := by
  induction m generalizing low with
  | nil => rfl
  | cons c m ih =>
    obtain ⟨k, v⟩ := c
    simp only [Memory.wfFrom, Bool.and_eq_true, decide_eq_true_eq] at hm
    by_cases hk : k = a
    · have : Memory.erase a ((k, v) :: m) = Memory.erase a m := by simp [Memory.erase, hk]
      rw [this]
      exact ih (Memory.wfFrom_mono (by omega) hm.2)
    · have : Memory.erase a ((k, v) :: m) = (k, v) :: Memory.erase a m := by simp [Memory.erase, hk]
      rw [this]
      simp only [Memory.wfFrom, Bool.and_eq_true, decide_eq_true_eq]
      exact ⟨hm.1, ih hm.2⟩

theorem Memory.wfFrom_insert {a : Nat} {v : Byte} (ha : a < 65536) (hv : v ≠ Memory.unlisted) {low : Nat} (hl : low ≤ a)
    {m : Memory} (hn : ∀ c ∈ m, c.1 ≠ a) (hm : m.wfFrom low = true) : (m.insert a v).wfFrom low = true := by
  induction m generalizing low with
  | nil => simp [Memory.insert, Memory.wfFrom, hl, ha, hv]
  | cons c m ih =>
    obtain ⟨k, w⟩ := c
    have hk : k ≠ a := hn (k, w) (by simp)
    simp only [Memory.wfFrom, Bool.and_eq_true, decide_eq_true_eq] at hm
    unfold Memory.insert
    split
    · rename_i hlt
      simp only [Memory.wfFrom, Bool.and_eq_true, decide_eq_true_eq, bne_iff_ne]
      exact ⟨⟨⟨hl, ha⟩, hv⟩, ⟨⟨⟨by omega, hm.1.1.2⟩, by simpa using hm.1.2⟩, hm.2⟩⟩
    · simp only [Memory.wfFrom, Bool.and_eq_true, decide_eq_true_eq]
      exact ⟨hm.1, ih (by omega) (fun c hc => hn c (by simp [hc])) hm.2⟩

/-- A write keeps the canonical form. -/
theorem Memory.wf_write {a : Nat} (ha : a < 65536) (v : Byte) {m : Memory} (hm : m.wf = true) : (m.write a v).wf = true := by
  unfold Memory.write
  split
  · exact Memory.wfFrom_erase a hm
  · rename_i hv
    exact Memory.wfFrom_insert ha hv (Nat.zero_le a) Memory.ne_of_mem_erase (Memory.wfFrom_erase a hm)

/-- Loading a byte sequence keeps the canonical form. -/
theorem Memory.wf_load (bytes : List Byte) (offset : Word) {m : Memory} (hm : m.wf = true) : (m.load offset bytes).wf = true := by
  induction bytes generalizing offset m with
  | nil => exact hm
  | cons b bs ih => exact ih (offset + 1) (Memory.wf_write offset.isLt b hm)

theorem State.wf_writeByte (s : State) (a : Word) (v : Byte) (h : s.mem.wf = true) : (s.writeByte a v).mem.wf = true :=
  Memory.wf_write a.isLt v h

theorem State.wf_writeWord (s : State) (a v : Word) (h : s.mem.wf = true) : (s.writeWord a v).mem.wf = true :=
  State.wf_writeByte _ _ _ (State.wf_writeByte s a _ h)

theorem State.wf_push16 (s : State) (v : Word) (h : s.mem.wf = true) : (s.push16 v).mem.wf = true :=
  Memory.wf_write (BitVec.isLt _) _ (Memory.wf_write (BitVec.isLt _) _ h)

theorem State.wf_setLoc8 (s : State) (x : Loc8) (v : Byte) (h : s.mem.wf = true) : (s.setLoc8 x v).mem.wf = true := by
  cases x with
  | reg r => simpa [State.setLoc8] using h
  | indHL => exact State.wf_writeByte s _ v h

theorem State.wf_reset : State.reset.mem.wf = true := rfl

end Sys2Proof.Machine
end

