-- ==== Sys2Proof/Laws/Regs.lean ====
section
/-! SUPPORT. Registers, their 16-bit views (spec 10_state R23) and the stack (20_memory R57, R58). -/
namespace Sys2Proof.Machine

/-! ### Bytes and 16-bit values -/

@[simp] theorem hiByte_ofBytes (hi lo : Byte) : hiByte (ofBytes hi lo) = hi := by
  apply BitVec.eq_of_getLsbD_eq
  intro i hi'
  simp only [hiByte, ofBytes, BitVec.getLsbD_setWidth, BitVec.getLsbD_ushiftRight, BitVec.getLsbD_or,
    BitVec.getLsbD_shiftLeft]
  simp [hi', show i < 16 by omega, show 8 + i < 16 by omega]

@[simp] theorem loByte_ofBytes (hi lo : Byte) : loByte (ofBytes hi lo) = lo := by
  apply BitVec.eq_of_getLsbD_eq
  intro i hi'
  simp only [loByte, ofBytes, BitVec.getLsbD_setWidth, BitVec.getLsbD_or, BitVec.getLsbD_shiftLeft]
  simp [hi', show i < 16 by omega]

@[simp] theorem ofBytes_hi_lo (v : Word) : ofBytes (hiByte v) (loByte v) = v := by
  apply BitVec.eq_of_getLsbD_eq
  intro i hi'
  simp only [hiByte, loByte, ofBytes, BitVec.getLsbD_setWidth, BitVec.getLsbD_ushiftRight, BitVec.getLsbD_or,
    BitVec.getLsbD_shiftLeft]
  by_cases h : i < 8
  · simp [h, hi']
  · simp [h, hi', show 8 + (i - 8) = i by omega, show i - 8 < 8 by omega, show i - 8 < 16 by omega]

/-! ### Registers after an update -/

@[simp] theorem State.reg_setReg (s : State) (r r' : Reg8) (v : Byte) :
    (s.setReg r v).reg r' = if r' = r then v else s.reg r' := by
  cases r <;> cases r' <;> rfl

@[simp] theorem State.reg16_SP_setReg (s : State) (r : Reg8) (v : Byte) : (s.setReg r v).reg16 .SP = s.reg16 .SP := by
  cases r <;> rfl

@[simp] theorem State.reg16_setReg16_self (s : State) (r : Reg16) (v : Word) : (s.setReg16 r v).reg16 r = v := by
  cases r <;> simp [State.setReg16, State.reg16]

/-- A read of a view combines its halves (R23). -/
theorem State.reg16_eq_halves (s : State) :
    s.reg16 .BC = ofBytes (s.reg .B) (s.reg .C) ∧ s.reg16 .DE = ofBytes (s.reg .D) (s.reg .E) ∧
      s.reg16 .HL = ofBytes (s.reg .H) (s.reg .L) := ⟨rfl, rfl, rfl⟩

@[simp] theorem State.reg_setSp (s : State) (r : Reg8) (v : Word) : (s.setReg16 .SP v).reg r = s.reg r := by
  cases r <;> rfl

@[simp] theorem State.reg_setBC (s : State) (r : Reg8) (v : Word) :
    (s.setReg16 .BC v).reg r = if r = .B then hiByte v else if r = .C then loByte v else s.reg r := by
  cases r <;> rfl

@[simp] theorem State.reg_setDE (s : State) (r : Reg8) (v : Word) :
    (s.setReg16 .DE v).reg r = if r = .D then hiByte v else if r = .E then loByte v else s.reg r := by
  cases r <;> rfl

@[simp] theorem State.reg_setHL (s : State) (r : Reg8) (v : Word) :
    (s.setReg16 .HL v).reg r = if r = .H then hiByte v else if r = .L then loByte v else s.reg r := by
  cases r <;> rfl

@[simp] theorem State.sp_setPair (s : State) (p : Pair) (v : Word) :
    (s.setReg16 p.toReg16 v).reg16 .SP = s.reg16 .SP := by
  cases p <;> rfl

/-- What reads the register file alone is the same in two states with the same register file. -/
theorem State.reg_congr {s t : State} (h : t.regs = s.regs) (r : Reg8) : t.reg r = s.reg r := by
  cases r <;> simp [State.reg, h]

theorem State.reg16_congr {s t : State} (h : t.regs = s.regs) (r : Reg16) : t.reg16 r = s.reg16 r := by
  cases r <;> simp [State.reg16, h]

theorem State.readByte_congr {s t : State} (h : t.mem = s.mem) (a : Word) : t.readByte a = s.readByte a := by
  simp [State.readByte, h]

@[simp] theorem State.reg_writeByte (s : State) (a : Word) (v : Byte) (r : Reg8) : (s.writeByte a v).reg r = s.reg r :=
  State.reg_congr rfl r

@[simp] theorem State.reg16_writeByte (s : State) (a : Word) (v : Byte) (r : Reg16) :
    (s.writeByte a v).reg16 r = s.reg16 r :=
  State.reg16_congr rfl r

@[simp] theorem State.readByte_setReg (s : State) (r : Reg8) (v : Byte) (a : Word) :
    (s.setReg r v).readByte a = s.readByte a :=
  State.readByte_congr (by simp) a

@[simp] theorem State.readByte_setReg16 (s : State) (r : Reg16) (v : Word) (a : Word) :
    (s.setReg16 r v).readByte a = s.readByte a :=
  State.readByte_congr (by simp) a

@[simp] theorem State.reg_jump (s : State) (o : Computed) (p : Word) (r : Reg8) : (s.jump o p).reg r = s.reg r :=
  State.reg_congr rfl r

@[simp] theorem State.reg16_jump (s : State) (o : Computed) (p : Word) (r : Reg16) : (s.jump o p).reg16 r = s.reg16 r :=
  State.reg16_congr rfl r

@[simp] theorem State.readByte_jump (s : State) (o : Computed) (p a : Word) : (s.jump o p).readByte a = s.readByte a :=
  State.readByte_congr rfl a

@[simp] theorem State.reg_hold (s : State) (e : Entry) (r : Reg8) : (s.hold e).reg r = s.reg r :=
  State.reg_congr rfl r

@[simp] theorem State.reg16_hold (s : State) (e : Entry) (r : Reg16) : (s.hold e).reg16 r = s.reg16 r :=
  State.reg16_congr rfl r

@[simp] theorem State.readByte_hold (s : State) (e : Entry) (a : Word) : (s.hold e).readByte a = s.readByte a :=
  State.readByte_congr rfl a

@[simp] theorem State.reg_setIme (s : State) (v : Bool) (r : Reg8) : (s.setIme v).reg r = s.reg r :=
  State.reg_congr rfl r

@[simp] theorem State.reg16_setIme (s : State) (v : Bool) (r : Reg16) : (s.setIme v).reg16 r = s.reg16 r :=
  State.reg16_congr rfl r

@[simp] theorem State.readByte_setIme (s : State) (v : Bool) (a : Word) : (s.setIme v).readByte a = s.readByte a :=
  State.readByte_congr rfl a

@[simp] theorem State.reg_retire (s : State) (o : Computed) (r : Reg8) : (s.retire o).reg r = s.reg r :=
  State.reg_congr rfl r

@[simp] theorem State.reg16_retire (s : State) (o : Computed) (r : Reg16) : (s.retire o).reg16 r = s.reg16 r :=
  State.reg16_congr rfl r

@[simp] theorem State.readByte_retire (s : State) (o : Computed) (a : Word) : (s.retire o).readByte a = s.readByte a :=
  State.readByte_congr rfl a

/-! ### Operands -/

@[simp] theorem State.loc8_hold (s : State) (e : Entry) (x : Loc8) : (s.hold e).loc8 x = s.loc8 x := by
  cases x with
  | reg r => exact State.reg_hold s e r
  | indHL => rfl

@[simp] theorem State.operand8_hold (s : State) (e : Entry) (x : Operand8) : (s.hold e).operand8 x = s.operand8 x := by
  cases x with
  | loc x => exact State.loc8_hold s e x
  | imm n => rfl

@[simp] theorem State.ea_hold (s : State) (e : Entry) (a : Ea) : (s.hold e).ea a = s.ea a := by
  cases a <;> simp [State.ea]

@[simp] theorem State.reg_setLoc8 (s : State) (x : Loc8) (v : Byte) (r : Reg8) :
    (s.setLoc8 x v).reg r = if x = .reg r then v else s.reg r := by
  cases x with
  | reg r' => simp [State.setLoc8, eq_comm]
  | indHL => simp [State.setLoc8]

@[simp] theorem State.sp_setLoc8 (s : State) (x : Loc8) (v : Byte) : (s.setLoc8 x v).reg16 .SP = s.reg16 .SP := by
  cases x <;> simp [State.setLoc8]

@[simp] theorem State.readByte_setLoc8 (s : State) (x : Loc8) (v : Byte) (a : Word) :
    (s.setLoc8 x v).readByte a = if x = .indHL ∧ a = s.reg16 .HL then v else s.readByte a := by
  cases x <;> simp [State.setLoc8]

/-! ### The stack -/

/-- Everything a push does (R57): SP two lower, the high byte at SP - 1, the low byte at SP - 2. -/
theorem State.push16_eq (s : State) (v : Word) :
    s.push16 v =
      ((s.writeByte (s.reg16 .SP - 1) (hiByte v)).writeByte (s.reg16 .SP - 1 - 1) (loByte v)).setReg16 .SP
        (s.reg16 .SP - 1 - 1) := rfl

@[simp] theorem State.reg_push16 (s : State) (v : Word) (r : Reg8) : (s.push16 v).reg r = s.reg r := by
  cases r <;> rfl

@[simp] theorem State.sp_push16 (s : State) (v : Word) : (s.push16 v).reg16 .SP = s.reg16 .SP - 1 - 1 := rfl

@[simp] theorem State.readByte_push16 (s : State) (v : Word) (a : Word) :
    (s.push16 v).readByte a =
      if a = s.reg16 .SP - 1 - 1 then loByte v else if a = s.reg16 .SP - 1 then hiByte v else s.readByte a := by
  rw [State.push16_eq]
  simp

@[simp] theorem State.reg_pop16 (s : State) (r : Reg8) : s.pop16.reg r = s.reg r := by
  simp [State.pop16]

@[simp] theorem State.sp_pop16 (s : State) : s.pop16.reg16 .SP = s.reg16 .SP + 2 := by
  simp [State.pop16]

@[simp] theorem State.readByte_pop16 (s : State) (a : Word) : s.pop16.readByte a = s.readByte a := by
  simp [State.pop16]

/-! ### The common end of an instruction -/

@[simp] theorem State.nextPc_hold (s : State) (e : Entry) : (s.hold e).nextPc = s.pc + BitVec.ofNat 16 e.len := rfl

theorem State.nextPc_congr {s t : State} (hp : t.pc = s.pc) (he : t.entry = s.entry) : t.nextPc = s.nextPc := by
  simp [State.nextPc, hp, he]

end Sys2Proof.Machine
end

