-- ==== Sys2Proof/Laws/Exec.lean ====
section
/-! SUPPORT. What any instruction can do, said once: `exec` always answers a next state, which either is the old one with a fault
recorded, or differs from it only in the register file, PC, the flags, memory (in canonical form if it was) and IME (never set).
Each shared operation has its own lemma. -/
namespace Sys2Proof.Machine

/-- What an instruction's next state may differ in. -/
inductive Effect (s : State) : State → Prop where
  | faulted (f : Fault) : Effect s (s.raise f)
  | ran {t : State} (control : ControlUnchanged s t) (ime : t.ime = true → s.ime = true)
      (mem : s.mem.wf = true → t.mem.wf = true) : Effect s t

/-- The outcome is a next state with that effect. -/
def HasEffect (s : State) (r : Res) : Prop := ∃ t, r = .next t ∧ Effect s t

/-- An instruction that writes registers and flags alone. -/
theorem HasEffect.of_mem_eq {s t : State} (c : ControlUnchanged s t) (hi : t.ime = s.ime) (hm : t.mem = s.mem) :
    HasEffect s (.next t) :=
  ⟨t, rfl, .ran c (fun h => hi ▸ h) (fun h => hm ▸ h)⟩

theorem aluAdd_effect (x : Operand8) (s : State) : HasEffect s (aluAdd x s) :=
  .of_mem_eq (by constructor <;> simp) (by simp) (by simp)

theorem addHL_effect (rr : Reg16) (s : State) : HasEffect s (addHL rr s) :=
  .of_mem_eq (by constructor <;> simp) (by simp) (by simp)

theorem aluSub_effect (x : Operand8) (s : State) : HasEffect s (aluSub x s) :=
  .of_mem_eq (by constructor <;> simp) (by simp) (by simp)

theorem aluCp_effect (x : Operand8) (s : State) : HasEffect s (aluCp x s) :=
  .of_mem_eq (by constructor <;> simp) (by simp) (by simp)

theorem incByte_effect (x : Loc8) (s : State) : HasEffect s (incByte x s) :=
  ⟨_, rfl, .ran (by constructor <;> simp) (by simp) fun h => State.wf_setLoc8 s x _ h⟩

theorem decByte_effect (x : Loc8) (s : State) : HasEffect s (decByte x s) :=
  ⟨_, rfl, .ran (by constructor <;> simp) (by simp) fun h => State.wf_setLoc8 s x _ h⟩

theorem incWord_effect (rr : Reg16) (s : State) : HasEffect s (incWord rr s) :=
  .of_mem_eq (by constructor <;> simp) (by simp) (by simp)

theorem decWord_effect (rr : Reg16) (s : State) : HasEffect s (decWord rr s) :=
  .of_mem_eq (by constructor <;> simp) (by simp) (by simp)

theorem aluAnd_effect (x : Operand8) (s : State) : HasEffect s (aluAnd x s) :=
  .of_mem_eq (by constructor <;> simp) (by simp) (by simp)

theorem aluXor_effect (x : Operand8) (s : State) : HasEffect s (aluXor x s) :=
  .of_mem_eq (by constructor <;> simp) (by simp) (by simp)

theorem aluOr_effect (x : Operand8) (s : State) : HasEffect s (aluOr x s) :=
  .of_mem_eq (by constructor <;> simp) (by simp) (by simp)

theorem testBit_effect (b : Oct) (x : Loc8) (s : State) : HasEffect s (testBit b x s) :=
  .of_mem_eq (by constructor <;> simp) (by simp) (by simp)

theorem rotateLeft_effect (x : Loc8) (s : State) : HasEffect s (rotateLeft x s) :=
  ⟨_, rfl, .ran (by constructor <;> simp) (by simp) fun h => State.wf_setLoc8 s x _ h⟩

theorem loadByte_effect (d : Reg8) (v : Byte) (s : State) : HasEffect s (loadByte d v s) :=
  .of_mem_eq (by constructor <;> simp) (by simp) (by simp)

theorem loadWord_effect (d : Reg16) (v : Word) (s : State) : HasEffect s (loadWord d v s) :=
  .of_mem_eq (by constructor <;> simp) (by simp) (by simp)

theorem loadFrom_effect (d : Reg8) (a : Ea) (s : State) : HasEffect s (loadFrom d a s) :=
  .of_mem_eq (by constructor <;> simp) (by simp) (by simp)

theorem storeTo_effect (a : Ea) (v : Byte) (s : State) : HasEffect s (storeTo a v s) :=
  ⟨_, rfl, .ran (by constructor <;> simp) (by simp) fun h => by simpa using State.wf_writeByte s (s.ea a) v h⟩

theorem storeWord_effect (a v : Word) (s : State) : HasEffect s (storeWord a v s) :=
  ⟨_, rfl, .ran (by constructor <;> simp) (by simp) fun h => State.wf_writeWord s a v h⟩

theorem ifCond_effect (cc : Cond) (taken : State → Res) (s : State) (h : HasEffect s (taken s)) :
    HasEffect s (ifCond cc taken s) := by
  unfold ifCond
  split
  · exact h
  · exact .of_mem_eq (by constructor <;> simp) (by simp) (by simp)

theorem jumpRelative_effect (n : Byte) (s : State) : HasEffect s (jumpRelative n s) :=
  .of_mem_eq (by constructor <;> simp) (by simp) (by simp)

theorem callTo_effect (nn : Word) (s : State) : HasEffect s (callTo nn s) :=
  ⟨_, rfl, .ran (by constructor <;> simp) (by simp) fun h => State.wf_push16 s _ h⟩

theorem returnFromStack_effect (s : State) : HasEffect s (returnFromStack s) :=
  .of_mem_eq (by constructor <;> simp) (by simp) (by simp)

theorem pushPair_effect (p : Pair) (s : State) : HasEffect s (pushPair p s) :=
  ⟨_, rfl, .ran (by constructor <;> simp) (by simp) fun h => State.wf_push16 s _ h⟩

theorem popPair_effect (p : Pair) (s : State) : HasEffect s (popPair p s) :=
  .of_mem_eq (by constructor <;> simp) (by simp) (by simp)

theorem execNop_effect (s : State) : HasEffect s (execNop s) :=
  .of_mem_eq (by constructor <;> simp) (by simp) (by simp)

theorem execDi_effect (s : State) : HasEffect s (execDi s) :=
  ⟨_, rfl, .ran (by constructor <;> simp) (by simp) fun h => h⟩

theorem unimplemented_effect (name : FormName) (s : State) : HasEffect s (unimplemented name s) :=
  ⟨_, rfl, .faulted _⟩

theorem execAbsent_effect (bytes : List Byte) (s : State) : HasEffect s (execAbsent bytes s) :=
  ⟨_, rfl, .faulted _⟩

theorem execPrefix_CB_effect (s : State) : HasEffect s (execPrefix_CB s) :=
  ⟨_, rfl, .faulted _⟩

/-- Every instruction, in every state, answers a next state with such an effect. -/
theorem exec_effect (i : Instr) (s : State) : HasEffect s (exec i s) := by
  cases i with
  | ld_BC_d16 nn => exact loadWord_effect _ _ s
  | ld_B_d8 n => exact loadByte_effect _ _ s
  | ld_indA16_SP nn => exact storeWord_effect _ _ s
  | ld_C_d8 n => exact loadByte_effect _ _ s
  | stop_0 n => exact unimplemented_effect _ s
  | ld_DE_d16 nn => exact loadWord_effect _ _ s
  | ld_D_d8 n => exact loadByte_effect _ _ s
  | jr_r8 n => exact jumpRelative_effect _ s
  | ld_E_d8 n => exact loadByte_effect _ _ s
  | jr_NZ_r8 n => exact ifCond_effect _ _ s (jumpRelative_effect _ s)
  | ld_HL_d16 nn => exact loadWord_effect _ _ s
  | ld_H_d8 n => exact loadByte_effect _ _ s
  | jr_Z_r8 n => exact ifCond_effect _ _ s (jumpRelative_effect _ s)
  | ld_L_d8 n => exact loadByte_effect _ _ s
  | jr_NC_r8 n => exact ifCond_effect _ _ s (jumpRelative_effect _ s)
  | ld_SP_d16 nn => exact loadWord_effect _ _ s
  | ld_indHL_d8 n => exact storeTo_effect _ _ s
  | jr_C_r8 n => exact ifCond_effect _ _ s (jumpRelative_effect _ s)
  | ld_A_d8 n => exact loadByte_effect _ _ s
  | jp_NZ_a16 nn => exact unimplemented_effect _ s
  | jp_a16 nn => exact unimplemented_effect _ s
  | call_NZ_a16 nn => exact ifCond_effect _ _ s (callTo_effect _ s)
  | add_A_d8 n => exact aluAdd_effect _ s
  | jp_Z_a16 nn => exact unimplemented_effect _ s
  | call_Z_a16 nn => exact ifCond_effect _ _ s (callTo_effect _ s)
  | call_a16 nn => exact callTo_effect _ s
  | adc_A_d8 n => exact unimplemented_effect _ s
  | jp_NC_a16 nn => exact unimplemented_effect _ s
  | absent bytes => exact execAbsent_effect _ s
  | call_NC_a16 nn => exact ifCond_effect _ _ s (callTo_effect _ s)
  | sub_d8 n => exact aluSub_effect _ s
  | jp_C_a16 nn => exact unimplemented_effect _ s
  | call_C_a16 nn => exact ifCond_effect _ _ s (callTo_effect _ s)
  | sbc_A_d8 n => exact unimplemented_effect _ s
  | ldh_indA8_A n => exact storeTo_effect _ _ s
  | and_d8 n => exact aluAnd_effect _ s
  | add_SP_r8 n => exact unimplemented_effect _ s
  | ld_indA16_A nn => exact storeTo_effect _ _ s
  | xor_d8 n => exact aluXor_effect _ s
  | ldh_A_indA8 n => exact loadFrom_effect _ _ s
  | or_d8 n => exact aluOr_effect _ s
  | ld_HL_SPr8 n => exact unimplemented_effect _ s
  | ld_A_indA16 nn => exact loadFrom_effect _ _ s
  | cp_d8 n => exact aluCp_effect _ s
  | rlc_r r => exact unimplemented_effect _ s
  | rrc_r r => exact unimplemented_effect _ s
  | rr_r r => exact unimplemented_effect _ s
  | sla_r r => exact unimplemented_effect _ s
  | sra_r r => exact unimplemented_effect _ s
  | swap_r r => exact unimplemented_effect _ s
  | srl_r r => exact unimplemented_effect _ s
  | res_b_r b r => exact unimplemented_effect _ s
  | set_b_r b r => exact unimplemented_effect _ s
  | nop => exact execNop_effect s
  | ld_indBC_A => exact storeTo_effect _ _ s
  | inc_BC => exact incWord_effect _ s
  | inc_B => exact incByte_effect _ s
  | dec_B => exact decByte_effect _ s
  | rlca => exact unimplemented_effect _ s
  | add_HL_BC => exact addHL_effect _ s
  | ld_A_indBC => exact loadFrom_effect _ _ s
  | dec_BC => exact decWord_effect _ s
  | inc_C => exact incByte_effect _ s
  | dec_C => exact decByte_effect _ s
  | rrca => exact unimplemented_effect _ s
  | ld_indDE_A => exact storeTo_effect _ _ s
  | inc_DE => exact incWord_effect _ s
  | inc_D => exact incByte_effect _ s
  | dec_D => exact decByte_effect _ s
  | rla => exact rotateLeft_effect _ s
  | add_HL_DE => exact addHL_effect _ s
  | ld_A_indDE => exact loadFrom_effect _ _ s
  | dec_DE => exact decWord_effect _ s
  | inc_E => exact incByte_effect _ s
  | dec_E => exact decByte_effect _ s
  | rra => exact unimplemented_effect _ s
  | ld_indHLinc_A => exact storeTo_effect _ _ s
  | inc_HL => exact incWord_effect _ s
  | inc_H => exact incByte_effect _ s
  | dec_H => exact decByte_effect _ s
  | daa => exact unimplemented_effect _ s
  | add_HL_HL => exact addHL_effect _ s
  | ld_A_indHLinc => exact loadFrom_effect _ _ s
  | dec_HL => exact decWord_effect _ s
  | inc_L => exact incByte_effect _ s
  | dec_L => exact decByte_effect _ s
  | cpl => exact unimplemented_effect _ s
  | ld_indHLdec_A => exact storeTo_effect _ _ s
  | inc_SP => exact incWord_effect _ s
  | inc_indHL => exact incByte_effect _ s
  | dec_indHL => exact decByte_effect _ s
  | scf => exact unimplemented_effect _ s
  | add_HL_SP => exact addHL_effect _ s
  | ld_A_indHLdec => exact loadFrom_effect _ _ s
  | dec_SP => exact decWord_effect _ s
  | inc_A => exact incByte_effect _ s
  | dec_A => exact decByte_effect _ s
  | ccf => exact unimplemented_effect _ s
  | ld_B_B => exact loadByte_effect _ _ s
  | ld_B_C => exact loadByte_effect _ _ s
  | ld_B_D => exact loadByte_effect _ _ s
  | ld_B_E => exact loadByte_effect _ _ s
  | ld_B_H => exact loadByte_effect _ _ s
  | ld_B_L => exact loadByte_effect _ _ s
  | ld_B_indHL => exact loadFrom_effect _ _ s
  | ld_B_A => exact loadByte_effect _ _ s
  | ld_C_B => exact loadByte_effect _ _ s
  | ld_C_C => exact loadByte_effect _ _ s
  | ld_C_D => exact loadByte_effect _ _ s
  | ld_C_E => exact loadByte_effect _ _ s
  | ld_C_H => exact loadByte_effect _ _ s
  | ld_C_L => exact loadByte_effect _ _ s
  | ld_C_indHL => exact loadFrom_effect _ _ s
  | ld_C_A => exact loadByte_effect _ _ s
  | ld_D_B => exact loadByte_effect _ _ s
  | ld_D_C => exact loadByte_effect _ _ s
  | ld_D_D => exact loadByte_effect _ _ s
  | ld_D_E => exact loadByte_effect _ _ s
  | ld_D_H => exact loadByte_effect _ _ s
  | ld_D_L => exact loadByte_effect _ _ s
  | ld_D_indHL => exact loadFrom_effect _ _ s
  | ld_D_A => exact loadByte_effect _ _ s
  | ld_E_B => exact loadByte_effect _ _ s
  | ld_E_C => exact loadByte_effect _ _ s
  | ld_E_D => exact loadByte_effect _ _ s
  | ld_E_E => exact loadByte_effect _ _ s
  | ld_E_H => exact loadByte_effect _ _ s
  | ld_E_L => exact loadByte_effect _ _ s
  | ld_E_indHL => exact loadFrom_effect _ _ s
  | ld_E_A => exact loadByte_effect _ _ s
  | ld_H_B => exact loadByte_effect _ _ s
  | ld_H_C => exact loadByte_effect _ _ s
  | ld_H_D => exact loadByte_effect _ _ s
  | ld_H_E => exact loadByte_effect _ _ s
  | ld_H_H => exact loadByte_effect _ _ s
  | ld_H_L => exact loadByte_effect _ _ s
  | ld_H_indHL => exact loadFrom_effect _ _ s
  | ld_H_A => exact loadByte_effect _ _ s
  | ld_L_B => exact loadByte_effect _ _ s
  | ld_L_C => exact loadByte_effect _ _ s
  | ld_L_D => exact loadByte_effect _ _ s
  | ld_L_E => exact loadByte_effect _ _ s
  | ld_L_H => exact loadByte_effect _ _ s
  | ld_L_L => exact loadByte_effect _ _ s
  | ld_L_indHL => exact loadFrom_effect _ _ s
  | ld_L_A => exact loadByte_effect _ _ s
  | ld_indHL_B => exact storeTo_effect _ _ s
  | ld_indHL_C => exact storeTo_effect _ _ s
  | ld_indHL_D => exact storeTo_effect _ _ s
  | ld_indHL_E => exact storeTo_effect _ _ s
  | ld_indHL_H => exact storeTo_effect _ _ s
  | ld_indHL_L => exact storeTo_effect _ _ s
  | halt => exact unimplemented_effect _ s
  | ld_indHL_A => exact storeTo_effect _ _ s
  | ld_A_B => exact loadByte_effect _ _ s
  | ld_A_C => exact loadByte_effect _ _ s
  | ld_A_D => exact loadByte_effect _ _ s
  | ld_A_E => exact loadByte_effect _ _ s
  | ld_A_H => exact loadByte_effect _ _ s
  | ld_A_L => exact loadByte_effect _ _ s
  | ld_A_indHL => exact loadFrom_effect _ _ s
  | ld_A_A => exact loadByte_effect _ _ s
  | add_A_B => exact aluAdd_effect _ s
  | add_A_C => exact aluAdd_effect _ s
  | add_A_D => exact aluAdd_effect _ s
  | add_A_E => exact aluAdd_effect _ s
  | add_A_H => exact aluAdd_effect _ s
  | add_A_L => exact aluAdd_effect _ s
  | add_A_indHL => exact aluAdd_effect _ s
  | add_A_A => exact aluAdd_effect _ s
  | adc_A_B => exact unimplemented_effect _ s
  | adc_A_C => exact unimplemented_effect _ s
  | adc_A_D => exact unimplemented_effect _ s
  | adc_A_E => exact unimplemented_effect _ s
  | adc_A_H => exact unimplemented_effect _ s
  | adc_A_L => exact unimplemented_effect _ s
  | adc_A_indHL => exact unimplemented_effect _ s
  | adc_A_A => exact unimplemented_effect _ s
  | sub_B => exact aluSub_effect _ s
  | sub_C => exact aluSub_effect _ s
  | sub_D => exact aluSub_effect _ s
  | sub_E => exact aluSub_effect _ s
  | sub_H => exact aluSub_effect _ s
  | sub_L => exact aluSub_effect _ s
  | sub_indHL => exact aluSub_effect _ s
  | sub_A => exact aluSub_effect _ s
  | sbc_A_B => exact unimplemented_effect _ s
  | sbc_A_C => exact unimplemented_effect _ s
  | sbc_A_D => exact unimplemented_effect _ s
  | sbc_A_E => exact unimplemented_effect _ s
  | sbc_A_H => exact unimplemented_effect _ s
  | sbc_A_L => exact unimplemented_effect _ s
  | sbc_A_indHL => exact unimplemented_effect _ s
  | sbc_A_A => exact unimplemented_effect _ s
  | and_B => exact aluAnd_effect _ s
  | and_C => exact aluAnd_effect _ s
  | and_D => exact aluAnd_effect _ s
  | and_E => exact aluAnd_effect _ s
  | and_H => exact aluAnd_effect _ s
  | and_L => exact aluAnd_effect _ s
  | and_indHL => exact aluAnd_effect _ s
  | and_A => exact aluAnd_effect _ s
  | xor_B => exact aluXor_effect _ s
  | xor_C => exact aluXor_effect _ s
  | xor_D => exact aluXor_effect _ s
  | xor_E => exact aluXor_effect _ s
  | xor_H => exact aluXor_effect _ s
  | xor_L => exact aluXor_effect _ s
  | xor_indHL => exact aluXor_effect _ s
  | xor_A => exact aluXor_effect _ s
  | or_B => exact aluOr_effect _ s
  | or_C => exact aluOr_effect _ s
  | or_D => exact aluOr_effect _ s
  | or_E => exact aluOr_effect _ s
  | or_H => exact aluOr_effect _ s
  | or_L => exact aluOr_effect _ s
  | or_indHL => exact aluOr_effect _ s
  | or_A => exact aluOr_effect _ s
  | cp_B => exact aluCp_effect _ s
  | cp_C => exact aluCp_effect _ s
  | cp_D => exact aluCp_effect _ s
  | cp_E => exact aluCp_effect _ s
  | cp_H => exact aluCp_effect _ s
  | cp_L => exact aluCp_effect _ s
  | cp_indHL => exact aluCp_effect _ s
  | cp_A => exact aluCp_effect _ s
  | ret_NZ => exact ifCond_effect _ _ s (returnFromStack_effect s)
  | pop_BC => exact popPair_effect _ s
  | push_BC => exact pushPair_effect _ s
  | rst_00H => exact unimplemented_effect _ s
  | ret_Z => exact ifCond_effect _ _ s (returnFromStack_effect s)
  | ret => exact returnFromStack_effect s
  | prefix_CB => exact execPrefix_CB_effect s
  | rst_08H => exact unimplemented_effect _ s
  | ret_NC => exact ifCond_effect _ _ s (returnFromStack_effect s)
  | pop_DE => exact popPair_effect _ s
  | push_DE => exact pushPair_effect _ s
  | rst_10H => exact unimplemented_effect _ s
  | ret_C => exact ifCond_effect _ _ s (returnFromStack_effect s)
  | reti => exact unimplemented_effect _ s
  | rst_18H => exact unimplemented_effect _ s
  | pop_HL => exact popPair_effect _ s
  | ld_indC_A => exact storeTo_effect _ _ s
  | push_HL => exact pushPair_effect _ s
  | rst_20H => exact unimplemented_effect _ s
  | jp_indHL => exact unimplemented_effect _ s
  | rst_28H => exact unimplemented_effect _ s
  | pop_AF => exact unimplemented_effect _ s
  | ld_A_indC => exact loadFrom_effect _ _ s
  | di => exact execDi_effect s
  | push_AF => exact unimplemented_effect _ s
  | rst_30H => exact unimplemented_effect _ s
  | ld_SP_HL => exact loadWord_effect _ _ s
  | ei => exact unimplemented_effect _ s
  | rst_38H => exact unimplemented_effect _ s
  | rl_B => exact rotateLeft_effect _ s
  | rl_C => exact rotateLeft_effect _ s
  | rl_D => exact rotateLeft_effect _ s
  | rl_E => exact rotateLeft_effect _ s
  | rl_H => exact rotateLeft_effect _ s
  | rl_L => exact rotateLeft_effect _ s
  | rl_indHL => exact rotateLeft_effect _ s
  | rl_A => exact rotateLeft_effect _ s
  | bit_0_B => exact testBit_effect _ _ s
  | bit_0_C => exact testBit_effect _ _ s
  | bit_0_D => exact testBit_effect _ _ s
  | bit_0_E => exact testBit_effect _ _ s
  | bit_0_H => exact testBit_effect _ _ s
  | bit_0_L => exact testBit_effect _ _ s
  | bit_0_indHL => exact testBit_effect _ _ s
  | bit_0_A => exact testBit_effect _ _ s
  | bit_1_B => exact testBit_effect _ _ s
  | bit_1_C => exact testBit_effect _ _ s
  | bit_1_D => exact testBit_effect _ _ s
  | bit_1_E => exact testBit_effect _ _ s
  | bit_1_H => exact testBit_effect _ _ s
  | bit_1_L => exact testBit_effect _ _ s
  | bit_1_indHL => exact testBit_effect _ _ s
  | bit_1_A => exact testBit_effect _ _ s
  | bit_2_B => exact testBit_effect _ _ s
  | bit_2_C => exact testBit_effect _ _ s
  | bit_2_D => exact testBit_effect _ _ s
  | bit_2_E => exact testBit_effect _ _ s
  | bit_2_H => exact testBit_effect _ _ s
  | bit_2_L => exact testBit_effect _ _ s
  | bit_2_indHL => exact testBit_effect _ _ s
  | bit_2_A => exact testBit_effect _ _ s
  | bit_3_B => exact testBit_effect _ _ s
  | bit_3_C => exact testBit_effect _ _ s
  | bit_3_D => exact testBit_effect _ _ s
  | bit_3_E => exact testBit_effect _ _ s
  | bit_3_H => exact testBit_effect _ _ s
  | bit_3_L => exact testBit_effect _ _ s
  | bit_3_indHL => exact testBit_effect _ _ s
  | bit_3_A => exact testBit_effect _ _ s
  | bit_4_B => exact testBit_effect _ _ s
  | bit_4_C => exact testBit_effect _ _ s
  | bit_4_D => exact testBit_effect _ _ s
  | bit_4_E => exact testBit_effect _ _ s
  | bit_4_H => exact testBit_effect _ _ s
  | bit_4_L => exact testBit_effect _ _ s
  | bit_4_indHL => exact testBit_effect _ _ s
  | bit_4_A => exact testBit_effect _ _ s
  | bit_5_B => exact testBit_effect _ _ s
  | bit_5_C => exact testBit_effect _ _ s
  | bit_5_D => exact testBit_effect _ _ s
  | bit_5_E => exact testBit_effect _ _ s
  | bit_5_H => exact testBit_effect _ _ s
  | bit_5_L => exact testBit_effect _ _ s
  | bit_5_indHL => exact testBit_effect _ _ s
  | bit_5_A => exact testBit_effect _ _ s
  | bit_6_B => exact testBit_effect _ _ s
  | bit_6_C => exact testBit_effect _ _ s
  | bit_6_D => exact testBit_effect _ _ s
  | bit_6_E => exact testBit_effect _ _ s
  | bit_6_H => exact testBit_effect _ _ s
  | bit_6_L => exact testBit_effect _ _ s
  | bit_6_indHL => exact testBit_effect _ _ s
  | bit_6_A => exact testBit_effect _ _ s
  | bit_7_B => exact testBit_effect _ _ s
  | bit_7_C => exact testBit_effect _ _ s
  | bit_7_D => exact testBit_effect _ _ s
  | bit_7_E => exact testBit_effect _ _ s
  | bit_7_H => exact testBit_effect _ _ s
  | bit_7_L => exact testBit_effect _ _ s
  | bit_7_indHL => exact testBit_effect _ _ s
  | bit_7_A => exact testBit_effect _ _ s

/-- The same, for a next state in hand. -/
theorem effect_of_exec {i : Instr} {s t : State} (h : exec i s = .next t) : Effect s t := by
  obtain ⟨t', h', he⟩ := exec_effect i s
  rw [h] at h'
  cases h'
  exact he

end Sys2Proof.Machine
end

