-- ==== Sys2Proof/Laws/Loop.lean ====
section
/-! SUPPORT. What one instruction step and one move of the run loop can do, said once (spec 30_encoding R78, 60_exceptions R164). -/
namespace Sys2Proof.Machine

/-- A state with other host moves to come. -/
def State.withHost (s : State) (host : List HostMove) : State := { s with host := host }

/-- What a completed `coreStep` did: an instruction's effect and the interrupt check, or a fault recorded. -/
inductive CoreMove (s : State) : State → Prop where
  | instr {i : Instr} {e : Entry} {u : State} (decoded : decode s.params s.fetch = .instr i e) (suits : i.suits e = true)
      (ran : exec i (s.hold e) = .next u) : CoreMove s u.boundary
  | undecodable {i : Instr} {u : State} (decoded : decode s.params s.fetch = .undecodable i)
      (ran : exec i s = .next u) : CoreMove s u.boundary
  | noHandler {name : FormName} (decoded : decode s.params s.fetch = .noHandler name) :
      CoreMove s (s.raise (.unimplementedInstruction s.pc name))

theorem coreMove_of_coreStep {s t : State} (h : coreStep s = .next t) : CoreMove s t := by
  unfold coreStep at h
  split at h
  · rename_i i e hd
    split at h
    · rename_i hs
      obtain ⟨u, hu, -⟩ := exec_effect i (s.hold e)
      rw [hu] at h
      cases h
      exact .instr hd hs hu
    · cases h
  · rename_i i hd
    obtain ⟨u, hu, -⟩ := exec_effect i s
    rw [hu] at h
    cases h
    exact .undecodable hd hu
  · rename_i name hd
    cases h
    exact .noHandler hd
  · cases h

/-- What one move of the run loop did. -/
inductive LoopMove (s : State) : State → Prop where
  | request {i : Nat} {rest : List HostMove} (move : s.host = .request i :: rest) (inRange : i < s.irq.length) :
      LoopMove s { s with host := rest, irq := setPending i true s.irq }
  | stop {rest : List HostMove} (move : s.host = .stop :: rest) : LoopMove s { s with host := rest, ended := true }
  | wait {rest : List HostMove} (pause : s.suspended = true) (move : s.host = .idle :: rest) :
      LoopMove s (s.withHost rest)
  | prompt {line : List Char} {rest : List HostMove} (pause : s.suspended = true) (move : s.host = .command line :: rest)
      (stays : ((s.withHost rest).command line).suspended = true) : LoopMove s ((s.withHost rest).command line)
  | resumed {line : List Char} {rest : List HostMove} {t : State} (pause : s.suspended = true)
      (move : s.host = .command line :: rest) (resumes : ((s.withHost rest).command line).suspended = false)
      (core : coreStep ((s.withHost rest).command line) = .next t) : LoopMove s t
  | paused {host : List HostMove} (boundary : s.suspended = false) (move : s.host = host ∨ s.host = .idle :: host)
      (suspends : (s.withHost host).gate.suspended = true) : LoopMove s (s.withHost host).gate
  | ran {host : List HostMove} {t : State} (boundary : s.suspended = false)
      (move : s.host = host ∨ s.host = .idle :: host) (passes : (s.withHost host).gate.suspended = false)
      (core : coreStep (s.withHost host).gate = .next t) : LoopMove s t

theorem hostRequest_next {s t : State} {i : Nat} (h : hostRequest s i = .next t) :
    i < s.irq.length ∧ t = { s with irq := setPending i true s.irq } := by
  unfold hostRequest State.request at h
  by_cases hi : i < s.irq.length
  · rw [if_pos hi] at h
    cases h
    exact ⟨hi, rfl⟩
  · rw [if_neg hi] at h
    cases h

theorem loopMove_of_gateAndStep {s t : State} {host : List HostMove} (boundary : s.suspended = false)
    (move : s.host = host ∨ s.host = .idle :: host) (h : gateAndStep (s.withHost host) = .next t) : LoopMove s t := by
  unfold gateAndStep at h
  simp only at h
  split at h
  · rename_i hg
    cases h
    exact .paused boundary move hg
  · rename_i hg
    exact .ran boundary move (by simpa using hg) h

/-- Every completed step is one of these moves, from a state that has neither faulted nor ended. -/
theorem loopMove_of_step {s t : State} (h : step s = .next t) : s.fault = none ∧ s.ended = false ∧ LoopMove s t := by
  unfold step loopStep at h
  split at h
  · cases h
  · rename_i hf
    split at h
    · cases h
    · rename_i he
      refine ⟨hf, by simpa using he, ?_⟩
      split at h
      · rename_i hp
        unfold atPause at h
        split at h
        · rename_i i rest hh
          obtain ⟨hi, rfl⟩ := hostRequest_next h
          exact .request hh hi
        · rename_i rest hh
          cases h
          exact .stop hh
        · rename_i rest hh
          cases h
          exact .wait hp hh
        · rename_i line rest hh
          unfold afterCommand at h
          split at h
          · rename_i hs
            cases h
            exact .prompt hp hh hs
          · rename_i hs
            exact .resumed hp hh (Bool.eq_false_iff.mpr hs) h
        · cases h
      · rename_i hp
        have hp : s.suspended = false := Bool.eq_false_iff.mpr hp
        unfold atBoundary at h
        split at h
        · rename_i i rest hh
          obtain ⟨hi, rfl⟩ := hostRequest_next h
          exact .request hh hi
        · rename_i rest hh
          cases h
          exact .stop hh
        · rename_i rest hh
          exact loopMove_of_gateAndStep hp (.inr hh) h
        · exact loopMove_of_gateAndStep hp (.inl rfl) h
        · exact loopMove_of_gateAndStep hp (.inl rfl) h

/-- The gate changes debug state alone (R181). -/
theorem gate_same (s : State) :
    SameArch s s.gate ∧ s.gate.entry = s.entry ∧ s.gate.host = s.host ∧ s.gate.ended = s.ended ∧ s.gate.bp = s.bp := by
  unfold State.gate
  split
  · exact ⟨by constructor <;> rfl, rfl, rfl, rfl, rfl⟩
  · split <;> exact ⟨by constructor <;> rfl, rfl, rfl, rfl, rfl⟩

/-- Everything a command does to the debug state (R183 to R187). -/
theorem command_cases (s : State) (line : List Char) :
    s.command line = s.cmdStep ∨ s.command line = s.cmdContinue ∨ (∃ a, s.command line = s.cmdBreak a) ∨
      (∃ k, s.command line = s.cmdDelete k) ∨ s.command line = s.reply .invalidDebugCommand := by
  unfold State.command
  split
  · exact .inl rfl
  · exact .inr (.inl rfl)
  · exact .inr (.inr (.inl ⟨_, rfl⟩))
  · exact .inr (.inr (.inr (.inl ⟨_, rfl⟩)))
  · exact .inr (.inr (.inr (.inr rfl)))

/-- Everything `delete` does (R186). -/
theorem cmdDelete_cases (s : State) (k : Nat) :
    s.cmdDelete k = State.reply { s with bp := s.bp.set (k - 1) none } .ack ∨
      s.cmdDelete k = s.reply .invalidDebugCommand := by
  unfold State.cmdDelete
  split
  · exact .inl rfl
  · exact .inr rfl
  · exact .inr rfl

/-- The interrupt check either does nothing or vectors to the first pending, enabled source with IME set (R168). -/
theorem postInstructionCheck_cases (s : State) :
    s.postInstructionCheck = s ∨
      ∃ i, s.ime = true ∧ firstPending s.irq = some i ∧ s.postInstructionCheck = s.vector i := by
  unfold State.postInstructionCheck
  split
  · rename_i hi
    split
    · rename_i i hp
      exact .inr ⟨i, hi, hp, rfl⟩
    · exact .inl rfl
  · exact .inl rfl

/-- The boundary after an instruction: nothing after a fault, else the interrupt check. -/
theorem boundary_cases (s : State) :
    s.boundary = s ∨ ∃ i, s.fault = none ∧ s.ime = true ∧ firstPending s.irq = some i ∧ s.boundary = s.vector i := by
  unfold State.boundary
  split
  · rename_i hf
    rcases postInstructionCheck_cases s with h | ⟨i, hi, hp, h⟩
    · exact .inl h
    · exact .inr ⟨i, hf, hi, hp, h⟩
  · exact .inl rfl

theorem State.wf_vector (s : State) (i : Nat) (h : s.mem.wf = true) : (s.vector i).mem.wf = true :=
  State.wf_push16 s s.pc h

/-- A pending bit written and read. -/
theorem setPending_getElem? (i j : Nat) (v : Bool) (l : List IrqSource) :
    (setPending i v l)[j]? = if i = j then l[j]?.map (fun src => { src with pending := v }) else l[j]? := by
  unfold setPending
  rw [List.getElem?_modify]
  split <;> simp

@[simp] theorem setPending_length (i : Nat) (v : Bool) (l : List IrqSource) : (setPending i v l).length = l.length := by
  simp [setPending]

/-- The source the check takes is pending and enabled, and none before it is (R168, R170). -/
theorem firstPending_some {l : List IrqSource} {i : Nat} (h : firstPending l = some i) :
    (∃ src, l[i]? = some src ∧ src.pending = true ∧ src.enable = true) ∧
      ∀ j src, j < i → l[j]? = some src → (src.pending && src.enable) = false := by
  induction l generalizing i with
  | nil => cases h
  | cons c l ih =>
    unfold firstPending at h
    split at h
    · rename_i hc
      cases h
      simp only [Bool.and_eq_true] at hc
      exact ⟨⟨c, rfl, hc.1, hc.2⟩, by omega⟩
    · rename_i hc
      cases hl : firstPending l with
      | none => simp [hl] at h
      | some k =>
        simp only [hl, Option.map_some, Option.some.injEq] at h
        subst h
        obtain ⟨h1, h2⟩ := ih hl
        refine ⟨by simpa using h1, fun j src hj hs => ?_⟩
        cases j with
        | zero =>
          cases hs
          exact Bool.eq_false_iff.mpr hc
        | succ j => exact h2 j src (by omega) (by simpa using hs)

end Sys2Proof.Machine
end

