-- ==== Sys2Proof/Laws/PerInstr.lean ====
section
/-! SUPPORT. Per instruction: its descriptor name, followed by its operand bytes, selects it and no other (spec 30_encoding R77). -/
namespace Sys2Proof.Laws.Selects

/-- An instruction's name and operand bytes select the instruction itself, whatever follows them. -/
def Statement (i : Instr) : Prop :=
  ∀ name e tail, i.view = .named name → dispatch ⟨name, e⟩ (i.imm ++ tail) = .instr i e

/-- The same for an instruction whose name is given. -/
theorem of_name {i : Instr} {name : FormName} (hv : i.view = .named name)
    (h : ∀ e tail, dispatch ⟨name, e⟩ (i.imm ++ tail) = .instr i e) : Statement i := by
  intro name' e tail hn
  cases hv.symm.trans hn
  exact h e tail

/-- For a form with a 16-bit operand: its two bytes, low byte first, are read back. -/
theorem of_name16 {f : Word → Instr} {name : FormName} {nn : Word} (hv : (f nn).view = .named name)
    (hi : (f nn).imm = imm16Bytes nn) (hb : name.builder = some (.imm16 f)) : Statement (f nn) := by
  refine of_name hv fun e tail => ?_
  simp only [dispatch, hb, hi, imm16Bytes, List.cons_append, Builder.build, Machine.ofBytes_hi_lo]

theorem ld_BC_d16 (nn : Word) : Statement (.ld_BC_d16 nn) := of_name16 (f := .ld_BC_d16) rfl rfl rfl
theorem ld_B_d8 (n : Byte) : Statement (.ld_B_d8 n) := of_name rfl fun _ _ => rfl
theorem ld_indA16_SP (nn : Word) : Statement (.ld_indA16_SP nn) := of_name16 (f := .ld_indA16_SP) rfl rfl rfl
theorem ld_C_d8 (n : Byte) : Statement (.ld_C_d8 n) := of_name rfl fun _ _ => rfl
theorem stop_0 (n : Byte) : Statement (.stop_0 n) := of_name rfl fun _ _ => rfl
theorem ld_DE_d16 (nn : Word) : Statement (.ld_DE_d16 nn) := of_name16 (f := .ld_DE_d16) rfl rfl rfl
theorem ld_D_d8 (n : Byte) : Statement (.ld_D_d8 n) := of_name rfl fun _ _ => rfl
theorem jr_r8 (n : Byte) : Statement (.jr_r8 n) := of_name rfl fun _ _ => rfl
theorem ld_E_d8 (n : Byte) : Statement (.ld_E_d8 n) := of_name rfl fun _ _ => rfl
theorem jr_NZ_r8 (n : Byte) : Statement (.jr_NZ_r8 n) := of_name rfl fun _ _ => rfl
theorem ld_HL_d16 (nn : Word) : Statement (.ld_HL_d16 nn) := of_name16 (f := .ld_HL_d16) rfl rfl rfl
theorem ld_H_d8 (n : Byte) : Statement (.ld_H_d8 n) := of_name rfl fun _ _ => rfl
theorem jr_Z_r8 (n : Byte) : Statement (.jr_Z_r8 n) := of_name rfl fun _ _ => rfl
theorem ld_L_d8 (n : Byte) : Statement (.ld_L_d8 n) := of_name rfl fun _ _ => rfl
theorem jr_NC_r8 (n : Byte) : Statement (.jr_NC_r8 n) := of_name rfl fun _ _ => rfl
theorem ld_SP_d16 (nn : Word) : Statement (.ld_SP_d16 nn) := of_name16 (f := .ld_SP_d16) rfl rfl rfl
theorem ld_indHL_d8 (n : Byte) : Statement (.ld_indHL_d8 n) := of_name rfl fun _ _ => rfl
theorem jr_C_r8 (n : Byte) : Statement (.jr_C_r8 n) := of_name rfl fun _ _ => rfl
theorem ld_A_d8 (n : Byte) : Statement (.ld_A_d8 n) := of_name rfl fun _ _ => rfl
theorem jp_NZ_a16 (nn : Word) : Statement (.jp_NZ_a16 nn) := of_name16 (f := .jp_NZ_a16) rfl rfl rfl
theorem jp_a16 (nn : Word) : Statement (.jp_a16 nn) := of_name16 (f := .jp_a16) rfl rfl rfl
theorem call_NZ_a16 (nn : Word) : Statement (.call_NZ_a16 nn) := of_name16 (f := .call_NZ_a16) rfl rfl rfl
theorem add_A_d8 (n : Byte) : Statement (.add_A_d8 n) := of_name rfl fun _ _ => rfl
theorem jp_Z_a16 (nn : Word) : Statement (.jp_Z_a16 nn) := of_name16 (f := .jp_Z_a16) rfl rfl rfl
theorem call_Z_a16 (nn : Word) : Statement (.call_Z_a16 nn) := of_name16 (f := .call_Z_a16) rfl rfl rfl
theorem call_a16 (nn : Word) : Statement (.call_a16 nn) := of_name16 (f := .call_a16) rfl rfl rfl
theorem adc_A_d8 (n : Byte) : Statement (.adc_A_d8 n) := of_name rfl fun _ _ => rfl
theorem jp_NC_a16 (nn : Word) : Statement (.jp_NC_a16 nn) := of_name16 (f := .jp_NC_a16) rfl rfl rfl
theorem absent (bytes : List Byte) : Statement (.absent bytes) := fun _ _ _ h => by cases h
theorem call_NC_a16 (nn : Word) : Statement (.call_NC_a16 nn) := of_name16 (f := .call_NC_a16) rfl rfl rfl
theorem sub_d8 (n : Byte) : Statement (.sub_d8 n) := of_name rfl fun _ _ => rfl
theorem jp_C_a16 (nn : Word) : Statement (.jp_C_a16 nn) := of_name16 (f := .jp_C_a16) rfl rfl rfl
theorem call_C_a16 (nn : Word) : Statement (.call_C_a16 nn) := of_name16 (f := .call_C_a16) rfl rfl rfl
theorem sbc_A_d8 (n : Byte) : Statement (.sbc_A_d8 n) := of_name rfl fun _ _ => rfl
theorem ldh_indA8_A (n : Byte) : Statement (.ldh_indA8_A n) := of_name rfl fun _ _ => rfl
theorem and_d8 (n : Byte) : Statement (.and_d8 n) := of_name rfl fun _ _ => rfl
theorem add_SP_r8 (n : Byte) : Statement (.add_SP_r8 n) := of_name rfl fun _ _ => rfl
theorem ld_indA16_A (nn : Word) : Statement (.ld_indA16_A nn) := of_name16 (f := .ld_indA16_A) rfl rfl rfl
theorem xor_d8 (n : Byte) : Statement (.xor_d8 n) := of_name rfl fun _ _ => rfl
theorem ldh_A_indA8 (n : Byte) : Statement (.ldh_A_indA8 n) := of_name rfl fun _ _ => rfl
theorem or_d8 (n : Byte) : Statement (.or_d8 n) := of_name rfl fun _ _ => rfl
theorem ld_HL_SPr8 (n : Byte) : Statement (.ld_HL_SPr8 n) := of_name rfl fun _ _ => rfl
theorem ld_A_indA16 (nn : Word) : Statement (.ld_A_indA16 nn) := of_name16 (f := .ld_A_indA16) rfl rfl rfl
theorem cp_d8 (n : Byte) : Statement (.cp_d8 n) := of_name rfl fun _ _ => rfl
theorem rlc_r (r : Loc8) : Statement (.rlc_r r) := by
  cases r with
  | reg r => cases r <;> exact of_name rfl fun _ _ => rfl
  | indHL => exact of_name rfl fun _ _ => rfl
theorem rrc_r (r : Loc8) : Statement (.rrc_r r) := by
  cases r with
  | reg r => cases r <;> exact of_name rfl fun _ _ => rfl
  | indHL => exact of_name rfl fun _ _ => rfl
theorem rr_r (r : Loc8) : Statement (.rr_r r) := by
  cases r with
  | reg r => cases r <;> exact of_name rfl fun _ _ => rfl
  | indHL => exact of_name rfl fun _ _ => rfl
theorem sla_r (r : Loc8) : Statement (.sla_r r) := by
  cases r with
  | reg r => cases r <;> exact of_name rfl fun _ _ => rfl
  | indHL => exact of_name rfl fun _ _ => rfl
theorem sra_r (r : Loc8) : Statement (.sra_r r) := by
  cases r with
  | reg r => cases r <;> exact of_name rfl fun _ _ => rfl
  | indHL => exact of_name rfl fun _ _ => rfl
theorem swap_r (r : Loc8) : Statement (.swap_r r) := by
  cases r with
  | reg r => cases r <;> exact of_name rfl fun _ _ => rfl
  | indHL => exact of_name rfl fun _ _ => rfl
theorem srl_r (r : Loc8) : Statement (.srl_r r) := by
  cases r with
  | reg r => cases r <;> exact of_name rfl fun _ _ => rfl
  | indHL => exact of_name rfl fun _ _ => rfl
theorem res_b_r (b : Oct) (r : Loc8) : Statement (.res_b_r b r) := by
  cases r with
  | reg r => cases b <;> cases r <;> exact of_name rfl fun _ _ => rfl
  | indHL => cases b <;> exact of_name rfl fun _ _ => rfl
theorem set_b_r (b : Oct) (r : Loc8) : Statement (.set_b_r b r) := by
  cases r with
  | reg r => cases b <;> cases r <;> exact of_name rfl fun _ _ => rfl
  | indHL => cases b <;> exact of_name rfl fun _ _ => rfl
theorem nop : Statement .nop := of_name rfl fun _ _ => rfl
theorem ld_indBC_A : Statement .ld_indBC_A := of_name rfl fun _ _ => rfl
theorem inc_BC : Statement .inc_BC := of_name rfl fun _ _ => rfl
theorem inc_B : Statement .inc_B := of_name rfl fun _ _ => rfl
theorem dec_B : Statement .dec_B := of_name rfl fun _ _ => rfl
theorem rlca : Statement .rlca := of_name rfl fun _ _ => rfl
theorem add_HL_BC : Statement .add_HL_BC := of_name rfl fun _ _ => rfl
theorem ld_A_indBC : Statement .ld_A_indBC := of_name rfl fun _ _ => rfl
theorem dec_BC : Statement .dec_BC := of_name rfl fun _ _ => rfl
theorem inc_C : Statement .inc_C := of_name rfl fun _ _ => rfl
theorem dec_C : Statement .dec_C := of_name rfl fun _ _ => rfl
theorem rrca : Statement .rrca := of_name rfl fun _ _ => rfl
theorem ld_indDE_A : Statement .ld_indDE_A := of_name rfl fun _ _ => rfl
theorem inc_DE : Statement .inc_DE := of_name rfl fun _ _ => rfl
theorem inc_D : Statement .inc_D := of_name rfl fun _ _ => rfl
theorem dec_D : Statement .dec_D := of_name rfl fun _ _ => rfl
theorem rla : Statement .rla := of_name rfl fun _ _ => rfl
theorem add_HL_DE : Statement .add_HL_DE := of_name rfl fun _ _ => rfl
theorem ld_A_indDE : Statement .ld_A_indDE := of_name rfl fun _ _ => rfl
theorem dec_DE : Statement .dec_DE := of_name rfl fun _ _ => rfl
theorem inc_E : Statement .inc_E := of_name rfl fun _ _ => rfl
theorem dec_E : Statement .dec_E := of_name rfl fun _ _ => rfl
theorem rra : Statement .rra := of_name rfl fun _ _ => rfl
theorem ld_indHLinc_A : Statement .ld_indHLinc_A := of_name rfl fun _ _ => rfl
theorem inc_HL : Statement .inc_HL := of_name rfl fun _ _ => rfl
theorem inc_H : Statement .inc_H := of_name rfl fun _ _ => rfl
theorem dec_H : Statement .dec_H := of_name rfl fun _ _ => rfl
theorem daa : Statement .daa := of_name rfl fun _ _ => rfl
theorem add_HL_HL : Statement .add_HL_HL := of_name rfl fun _ _ => rfl
theorem ld_A_indHLinc : Statement .ld_A_indHLinc := of_name rfl fun _ _ => rfl
theorem dec_HL : Statement .dec_HL := of_name rfl fun _ _ => rfl
theorem inc_L : Statement .inc_L := of_name rfl fun _ _ => rfl
theorem dec_L : Statement .dec_L := of_name rfl fun _ _ => rfl
theorem cpl : Statement .cpl := of_name rfl fun _ _ => rfl
theorem ld_indHLdec_A : Statement .ld_indHLdec_A := of_name rfl fun _ _ => rfl
theorem inc_SP : Statement .inc_SP := of_name rfl fun _ _ => rfl
theorem inc_indHL : Statement .inc_indHL := of_name rfl fun _ _ => rfl
theorem dec_indHL : Statement .dec_indHL := of_name rfl fun _ _ => rfl
theorem scf : Statement .scf := of_name rfl fun _ _ => rfl
theorem add_HL_SP : Statement .add_HL_SP := of_name rfl fun _ _ => rfl
theorem ld_A_indHLdec : Statement .ld_A_indHLdec := of_name rfl fun _ _ => rfl
theorem dec_SP : Statement .dec_SP := of_name rfl fun _ _ => rfl
theorem inc_A : Statement .inc_A := of_name rfl fun _ _ => rfl
theorem dec_A : Statement .dec_A := of_name rfl fun _ _ => rfl
theorem ccf : Statement .ccf := of_name rfl fun _ _ => rfl
theorem ld_B_B : Statement .ld_B_B := of_name rfl fun _ _ => rfl
theorem ld_B_C : Statement .ld_B_C := of_name rfl fun _ _ => rfl
theorem ld_B_D : Statement .ld_B_D := of_name rfl fun _ _ => rfl
theorem ld_B_E : Statement .ld_B_E := of_name rfl fun _ _ => rfl
theorem ld_B_H : Statement .ld_B_H := of_name rfl fun _ _ => rfl
theorem ld_B_L : Statement .ld_B_L := of_name rfl fun _ _ => rfl
theorem ld_B_indHL : Statement .ld_B_indHL := of_name rfl fun _ _ => rfl
theorem ld_B_A : Statement .ld_B_A := of_name rfl fun _ _ => rfl
theorem ld_C_B : Statement .ld_C_B := of_name rfl fun _ _ => rfl
theorem ld_C_C : Statement .ld_C_C := of_name rfl fun _ _ => rfl
theorem ld_C_D : Statement .ld_C_D := of_name rfl fun _ _ => rfl
theorem ld_C_E : Statement .ld_C_E := of_name rfl fun _ _ => rfl
theorem ld_C_H : Statement .ld_C_H := of_name rfl fun _ _ => rfl
theorem ld_C_L : Statement .ld_C_L := of_name rfl fun _ _ => rfl
theorem ld_C_indHL : Statement .ld_C_indHL := of_name rfl fun _ _ => rfl
theorem ld_C_A : Statement .ld_C_A := of_name rfl fun _ _ => rfl
theorem ld_D_B : Statement .ld_D_B := of_name rfl fun _ _ => rfl
theorem ld_D_C : Statement .ld_D_C := of_name rfl fun _ _ => rfl
theorem ld_D_D : Statement .ld_D_D := of_name rfl fun _ _ => rfl
theorem ld_D_E : Statement .ld_D_E := of_name rfl fun _ _ => rfl
theorem ld_D_H : Statement .ld_D_H := of_name rfl fun _ _ => rfl
theorem ld_D_L : Statement .ld_D_L := of_name rfl fun _ _ => rfl
theorem ld_D_indHL : Statement .ld_D_indHL := of_name rfl fun _ _ => rfl
theorem ld_D_A : Statement .ld_D_A := of_name rfl fun _ _ => rfl
theorem ld_E_B : Statement .ld_E_B := of_name rfl fun _ _ => rfl
theorem ld_E_C : Statement .ld_E_C := of_name rfl fun _ _ => rfl
theorem ld_E_D : Statement .ld_E_D := of_name rfl fun _ _ => rfl
theorem ld_E_E : Statement .ld_E_E := of_name rfl fun _ _ => rfl
theorem ld_E_H : Statement .ld_E_H := of_name rfl fun _ _ => rfl
theorem ld_E_L : Statement .ld_E_L := of_name rfl fun _ _ => rfl
theorem ld_E_indHL : Statement .ld_E_indHL := of_name rfl fun _ _ => rfl
theorem ld_E_A : Statement .ld_E_A := of_name rfl fun _ _ => rfl
theorem ld_H_B : Statement .ld_H_B := of_name rfl fun _ _ => rfl
theorem ld_H_C : Statement .ld_H_C := of_name rfl fun _ _ => rfl
theorem ld_H_D : Statement .ld_H_D := of_name rfl fun _ _ => rfl
theorem ld_H_E : Statement .ld_H_E := of_name rfl fun _ _ => rfl
theorem ld_H_H : Statement .ld_H_H := of_name rfl fun _ _ => rfl
theorem ld_H_L : Statement .ld_H_L := of_name rfl fun _ _ => rfl
theorem ld_H_indHL : Statement .ld_H_indHL := of_name rfl fun _ _ => rfl
theorem ld_H_A : Statement .ld_H_A := of_name rfl fun _ _ => rfl
theorem ld_L_B : Statement .ld_L_B := of_name rfl fun _ _ => rfl
theorem ld_L_C : Statement .ld_L_C := of_name rfl fun _ _ => rfl
theorem ld_L_D : Statement .ld_L_D := of_name rfl fun _ _ => rfl
theorem ld_L_E : Statement .ld_L_E := of_name rfl fun _ _ => rfl
theorem ld_L_H : Statement .ld_L_H := of_name rfl fun _ _ => rfl
theorem ld_L_L : Statement .ld_L_L := of_name rfl fun _ _ => rfl
theorem ld_L_indHL : Statement .ld_L_indHL := of_name rfl fun _ _ => rfl
theorem ld_L_A : Statement .ld_L_A := of_name rfl fun _ _ => rfl
theorem ld_indHL_B : Statement .ld_indHL_B := of_name rfl fun _ _ => rfl
theorem ld_indHL_C : Statement .ld_indHL_C := of_name rfl fun _ _ => rfl
theorem ld_indHL_D : Statement .ld_indHL_D := of_name rfl fun _ _ => rfl
theorem ld_indHL_E : Statement .ld_indHL_E := of_name rfl fun _ _ => rfl
theorem ld_indHL_H : Statement .ld_indHL_H := of_name rfl fun _ _ => rfl
theorem ld_indHL_L : Statement .ld_indHL_L := of_name rfl fun _ _ => rfl
theorem halt : Statement .halt := of_name rfl fun _ _ => rfl
theorem ld_indHL_A : Statement .ld_indHL_A := of_name rfl fun _ _ => rfl
theorem ld_A_B : Statement .ld_A_B := of_name rfl fun _ _ => rfl
theorem ld_A_C : Statement .ld_A_C := of_name rfl fun _ _ => rfl
theorem ld_A_D : Statement .ld_A_D := of_name rfl fun _ _ => rfl
theorem ld_A_E : Statement .ld_A_E := of_name rfl fun _ _ => rfl
theorem ld_A_H : Statement .ld_A_H := of_name rfl fun _ _ => rfl
theorem ld_A_L : Statement .ld_A_L := of_name rfl fun _ _ => rfl
theorem ld_A_indHL : Statement .ld_A_indHL := of_name rfl fun _ _ => rfl
theorem ld_A_A : Statement .ld_A_A := of_name rfl fun _ _ => rfl
theorem add_A_B : Statement .add_A_B := of_name rfl fun _ _ => rfl
theorem add_A_C : Statement .add_A_C := of_name rfl fun _ _ => rfl
theorem add_A_D : Statement .add_A_D := of_name rfl fun _ _ => rfl
theorem add_A_E : Statement .add_A_E := of_name rfl fun _ _ => rfl
theorem add_A_H : Statement .add_A_H := of_name rfl fun _ _ => rfl
theorem add_A_L : Statement .add_A_L := of_name rfl fun _ _ => rfl
theorem add_A_indHL : Statement .add_A_indHL := of_name rfl fun _ _ => rfl
theorem add_A_A : Statement .add_A_A := of_name rfl fun _ _ => rfl
theorem adc_A_B : Statement .adc_A_B := of_name rfl fun _ _ => rfl
theorem adc_A_C : Statement .adc_A_C := of_name rfl fun _ _ => rfl
theorem adc_A_D : Statement .adc_A_D := of_name rfl fun _ _ => rfl
theorem adc_A_E : Statement .adc_A_E := of_name rfl fun _ _ => rfl
theorem adc_A_H : Statement .adc_A_H := of_name rfl fun _ _ => rfl
theorem adc_A_L : Statement .adc_A_L := of_name rfl fun _ _ => rfl
theorem adc_A_indHL : Statement .adc_A_indHL := of_name rfl fun _ _ => rfl
theorem adc_A_A : Statement .adc_A_A := of_name rfl fun _ _ => rfl
theorem sub_B : Statement .sub_B := of_name rfl fun _ _ => rfl
theorem sub_C : Statement .sub_C := of_name rfl fun _ _ => rfl
theorem sub_D : Statement .sub_D := of_name rfl fun _ _ => rfl
theorem sub_E : Statement .sub_E := of_name rfl fun _ _ => rfl
theorem sub_H : Statement .sub_H := of_name rfl fun _ _ => rfl
theorem sub_L : Statement .sub_L := of_name rfl fun _ _ => rfl
theorem sub_indHL : Statement .sub_indHL := of_name rfl fun _ _ => rfl
theorem sub_A : Statement .sub_A := of_name rfl fun _ _ => rfl
theorem sbc_A_B : Statement .sbc_A_B := of_name rfl fun _ _ => rfl
theorem sbc_A_C : Statement .sbc_A_C := of_name rfl fun _ _ => rfl
theorem sbc_A_D : Statement .sbc_A_D := of_name rfl fun _ _ => rfl
theorem sbc_A_E : Statement .sbc_A_E := of_name rfl fun _ _ => rfl
theorem sbc_A_H : Statement .sbc_A_H := of_name rfl fun _ _ => rfl
theorem sbc_A_L : Statement .sbc_A_L := of_name rfl fun _ _ => rfl
theorem sbc_A_indHL : Statement .sbc_A_indHL := of_name rfl fun _ _ => rfl
theorem sbc_A_A : Statement .sbc_A_A := of_name rfl fun _ _ => rfl
theorem and_B : Statement .and_B := of_name rfl fun _ _ => rfl
theorem and_C : Statement .and_C := of_name rfl fun _ _ => rfl
theorem and_D : Statement .and_D := of_name rfl fun _ _ => rfl
theorem and_E : Statement .and_E := of_name rfl fun _ _ => rfl
theorem and_H : Statement .and_H := of_name rfl fun _ _ => rfl
theorem and_L : Statement .and_L := of_name rfl fun _ _ => rfl
theorem and_indHL : Statement .and_indHL := of_name rfl fun _ _ => rfl
theorem and_A : Statement .and_A := of_name rfl fun _ _ => rfl
theorem xor_B : Statement .xor_B := of_name rfl fun _ _ => rfl
theorem xor_C : Statement .xor_C := of_name rfl fun _ _ => rfl
theorem xor_D : Statement .xor_D := of_name rfl fun _ _ => rfl
theorem xor_E : Statement .xor_E := of_name rfl fun _ _ => rfl
theorem xor_H : Statement .xor_H := of_name rfl fun _ _ => rfl
theorem xor_L : Statement .xor_L := of_name rfl fun _ _ => rfl
theorem xor_indHL : Statement .xor_indHL := of_name rfl fun _ _ => rfl
theorem xor_A : Statement .xor_A := of_name rfl fun _ _ => rfl
theorem or_B : Statement .or_B := of_name rfl fun _ _ => rfl
theorem or_C : Statement .or_C := of_name rfl fun _ _ => rfl
theorem or_D : Statement .or_D := of_name rfl fun _ _ => rfl
theorem or_E : Statement .or_E := of_name rfl fun _ _ => rfl
theorem or_H : Statement .or_H := of_name rfl fun _ _ => rfl
theorem or_L : Statement .or_L := of_name rfl fun _ _ => rfl
theorem or_indHL : Statement .or_indHL := of_name rfl fun _ _ => rfl
theorem or_A : Statement .or_A := of_name rfl fun _ _ => rfl
theorem cp_B : Statement .cp_B := of_name rfl fun _ _ => rfl
theorem cp_C : Statement .cp_C := of_name rfl fun _ _ => rfl
theorem cp_D : Statement .cp_D := of_name rfl fun _ _ => rfl
theorem cp_E : Statement .cp_E := of_name rfl fun _ _ => rfl
theorem cp_H : Statement .cp_H := of_name rfl fun _ _ => rfl
theorem cp_L : Statement .cp_L := of_name rfl fun _ _ => rfl
theorem cp_indHL : Statement .cp_indHL := of_name rfl fun _ _ => rfl
theorem cp_A : Statement .cp_A := of_name rfl fun _ _ => rfl
theorem ret_NZ : Statement .ret_NZ := of_name rfl fun _ _ => rfl
theorem pop_BC : Statement .pop_BC := of_name rfl fun _ _ => rfl
theorem push_BC : Statement .push_BC := of_name rfl fun _ _ => rfl
theorem rst_00H : Statement .rst_00H := of_name rfl fun _ _ => rfl
theorem ret_Z : Statement .ret_Z := of_name rfl fun _ _ => rfl
theorem ret : Statement .ret := of_name rfl fun _ _ => rfl
theorem prefix_CB : Statement .prefix_CB := fun _ _ _ h => by cases h
theorem rst_08H : Statement .rst_08H := of_name rfl fun _ _ => rfl
theorem ret_NC : Statement .ret_NC := of_name rfl fun _ _ => rfl
theorem pop_DE : Statement .pop_DE := of_name rfl fun _ _ => rfl
theorem push_DE : Statement .push_DE := of_name rfl fun _ _ => rfl
theorem rst_10H : Statement .rst_10H := of_name rfl fun _ _ => rfl
theorem ret_C : Statement .ret_C := of_name rfl fun _ _ => rfl
theorem reti : Statement .reti := of_name rfl fun _ _ => rfl
theorem rst_18H : Statement .rst_18H := of_name rfl fun _ _ => rfl
theorem pop_HL : Statement .pop_HL := of_name rfl fun _ _ => rfl
theorem ld_indC_A : Statement .ld_indC_A := of_name rfl fun _ _ => rfl
theorem push_HL : Statement .push_HL := of_name rfl fun _ _ => rfl
theorem rst_20H : Statement .rst_20H := of_name rfl fun _ _ => rfl
theorem jp_indHL : Statement .jp_indHL := of_name rfl fun _ _ => rfl
theorem rst_28H : Statement .rst_28H := of_name rfl fun _ _ => rfl
theorem pop_AF : Statement .pop_AF := of_name rfl fun _ _ => rfl
theorem ld_A_indC : Statement .ld_A_indC := of_name rfl fun _ _ => rfl
theorem di : Statement .di := of_name rfl fun _ _ => rfl
theorem push_AF : Statement .push_AF := of_name rfl fun _ _ => rfl
theorem rst_30H : Statement .rst_30H := of_name rfl fun _ _ => rfl
theorem ld_SP_HL : Statement .ld_SP_HL := of_name rfl fun _ _ => rfl
theorem ei : Statement .ei := of_name rfl fun _ _ => rfl
theorem rst_38H : Statement .rst_38H := of_name rfl fun _ _ => rfl
theorem rl_B : Statement .rl_B := of_name rfl fun _ _ => rfl
theorem rl_C : Statement .rl_C := of_name rfl fun _ _ => rfl
theorem rl_D : Statement .rl_D := of_name rfl fun _ _ => rfl
theorem rl_E : Statement .rl_E := of_name rfl fun _ _ => rfl
theorem rl_H : Statement .rl_H := of_name rfl fun _ _ => rfl
theorem rl_L : Statement .rl_L := of_name rfl fun _ _ => rfl
theorem rl_indHL : Statement .rl_indHL := of_name rfl fun _ _ => rfl
theorem rl_A : Statement .rl_A := of_name rfl fun _ _ => rfl
theorem bit_0_B : Statement .bit_0_B := of_name rfl fun _ _ => rfl
theorem bit_0_C : Statement .bit_0_C := of_name rfl fun _ _ => rfl
theorem bit_0_D : Statement .bit_0_D := of_name rfl fun _ _ => rfl
theorem bit_0_E : Statement .bit_0_E := of_name rfl fun _ _ => rfl
theorem bit_0_H : Statement .bit_0_H := of_name rfl fun _ _ => rfl
theorem bit_0_L : Statement .bit_0_L := of_name rfl fun _ _ => rfl
theorem bit_0_indHL : Statement .bit_0_indHL := of_name rfl fun _ _ => rfl
theorem bit_0_A : Statement .bit_0_A := of_name rfl fun _ _ => rfl
theorem bit_1_B : Statement .bit_1_B := of_name rfl fun _ _ => rfl
theorem bit_1_C : Statement .bit_1_C := of_name rfl fun _ _ => rfl
theorem bit_1_D : Statement .bit_1_D := of_name rfl fun _ _ => rfl
theorem bit_1_E : Statement .bit_1_E := of_name rfl fun _ _ => rfl
theorem bit_1_H : Statement .bit_1_H := of_name rfl fun _ _ => rfl
theorem bit_1_L : Statement .bit_1_L := of_name rfl fun _ _ => rfl
theorem bit_1_indHL : Statement .bit_1_indHL := of_name rfl fun _ _ => rfl
theorem bit_1_A : Statement .bit_1_A := of_name rfl fun _ _ => rfl
theorem bit_2_B : Statement .bit_2_B := of_name rfl fun _ _ => rfl
theorem bit_2_C : Statement .bit_2_C := of_name rfl fun _ _ => rfl
theorem bit_2_D : Statement .bit_2_D := of_name rfl fun _ _ => rfl
theorem bit_2_E : Statement .bit_2_E := of_name rfl fun _ _ => rfl
theorem bit_2_H : Statement .bit_2_H := of_name rfl fun _ _ => rfl
theorem bit_2_L : Statement .bit_2_L := of_name rfl fun _ _ => rfl
theorem bit_2_indHL : Statement .bit_2_indHL := of_name rfl fun _ _ => rfl
theorem bit_2_A : Statement .bit_2_A := of_name rfl fun _ _ => rfl
theorem bit_3_B : Statement .bit_3_B := of_name rfl fun _ _ => rfl
theorem bit_3_C : Statement .bit_3_C := of_name rfl fun _ _ => rfl
theorem bit_3_D : Statement .bit_3_D := of_name rfl fun _ _ => rfl
theorem bit_3_E : Statement .bit_3_E := of_name rfl fun _ _ => rfl
theorem bit_3_H : Statement .bit_3_H := of_name rfl fun _ _ => rfl
theorem bit_3_L : Statement .bit_3_L := of_name rfl fun _ _ => rfl
theorem bit_3_indHL : Statement .bit_3_indHL := of_name rfl fun _ _ => rfl
theorem bit_3_A : Statement .bit_3_A := of_name rfl fun _ _ => rfl
theorem bit_4_B : Statement .bit_4_B := of_name rfl fun _ _ => rfl
theorem bit_4_C : Statement .bit_4_C := of_name rfl fun _ _ => rfl
theorem bit_4_D : Statement .bit_4_D := of_name rfl fun _ _ => rfl
theorem bit_4_E : Statement .bit_4_E := of_name rfl fun _ _ => rfl
theorem bit_4_H : Statement .bit_4_H := of_name rfl fun _ _ => rfl
theorem bit_4_L : Statement .bit_4_L := of_name rfl fun _ _ => rfl
theorem bit_4_indHL : Statement .bit_4_indHL := of_name rfl fun _ _ => rfl
theorem bit_4_A : Statement .bit_4_A := of_name rfl fun _ _ => rfl
theorem bit_5_B : Statement .bit_5_B := of_name rfl fun _ _ => rfl
theorem bit_5_C : Statement .bit_5_C := of_name rfl fun _ _ => rfl
theorem bit_5_D : Statement .bit_5_D := of_name rfl fun _ _ => rfl
theorem bit_5_E : Statement .bit_5_E := of_name rfl fun _ _ => rfl
theorem bit_5_H : Statement .bit_5_H := of_name rfl fun _ _ => rfl
theorem bit_5_L : Statement .bit_5_L := of_name rfl fun _ _ => rfl
theorem bit_5_indHL : Statement .bit_5_indHL := of_name rfl fun _ _ => rfl
theorem bit_5_A : Statement .bit_5_A := of_name rfl fun _ _ => rfl
theorem bit_6_B : Statement .bit_6_B := of_name rfl fun _ _ => rfl
theorem bit_6_C : Statement .bit_6_C := of_name rfl fun _ _ => rfl
theorem bit_6_D : Statement .bit_6_D := of_name rfl fun _ _ => rfl
theorem bit_6_E : Statement .bit_6_E := of_name rfl fun _ _ => rfl
theorem bit_6_H : Statement .bit_6_H := of_name rfl fun _ _ => rfl
theorem bit_6_L : Statement .bit_6_L := of_name rfl fun _ _ => rfl
theorem bit_6_indHL : Statement .bit_6_indHL := of_name rfl fun _ _ => rfl
theorem bit_6_A : Statement .bit_6_A := of_name rfl fun _ _ => rfl
theorem bit_7_B : Statement .bit_7_B := of_name rfl fun _ _ => rfl
theorem bit_7_C : Statement .bit_7_C := of_name rfl fun _ _ => rfl
theorem bit_7_D : Statement .bit_7_D := of_name rfl fun _ _ => rfl
theorem bit_7_E : Statement .bit_7_E := of_name rfl fun _ _ => rfl
theorem bit_7_H : Statement .bit_7_H := of_name rfl fun _ _ => rfl
theorem bit_7_L : Statement .bit_7_L := of_name rfl fun _ _ => rfl
theorem bit_7_indHL : Statement .bit_7_indHL := of_name rfl fun _ _ => rfl
theorem bit_7_A : Statement .bit_7_A := of_name rfl fun _ _ => rfl

end Sys2Proof.Laws.Selects
end

