-- ==== Sys2Proof/Tests/Slice0.lean ====
section
/-! SUPPORT. Tests of the model on fixed values: ill-formed terms that WellFormed refuses, words written out from the spec's
encodings, vectors of spec/95_test_vectors.md (one step each, the whole architectural state compared), table and command texts,
and a witness for the hypotheses of each statement that has any. -/
open Sys2Proof Sys2Proof.Machine Sys2Proof.Claims

namespace Sys2Proof.Tests

set_option Elab.async false

/-! ### Helpers -/

/-- A state with distinct register values, HL at 0xC076, SP at 0xD000 and PC at 0x0100. -/
def base : State := { State.reset with regs := ⟨0x21, 0x32, 0x43, 0x54, 0x65, 0xC0, 0x76, 0xD000⟩, pc := 0x0100 }

/-- The reference sources with given enable and pending bits, source 0 first. -/
def irqs (enable pending : List Bool) : List IrqSource :=
  (enable.zip (pending.zip Config.irqVectors)).map fun x => ⟨x.1, x.2.1, x.2.2⟩

/-- `s` with code at `pc`. -/
def place (pc : Word) (code : List Byte) (s : State) : State := { s with pc := pc, mem := s.mem.load pc code }

/-- One step from `s`, with the code at `pc`, completes and leaves the architectural state of `change` of the state before. -/
def gives (pc : Word) (code : List Byte) (s : State) (change : State → State) : Bool :=
  let t := change (place pc code s)
  match step (place pc code s) with
  | .next u =>
    u.regs == t.regs && u.pc == t.pc && u.flags == t.flags && u.mem == t.mem && u.ime == t.ime && u.irq == t.irq &&
      u.fault == t.fault
  | .fault _ => false
  | .refused _ => false

/-- The step answers a next state. -/
def completes (r : Res) : Bool :=
  match r with
  | .next _ => true
  | .fault _ => false
  | .refused _ => false

/-- The refusal an outcome names. -/
def refusal? (r : Res) : Option Refusal :=
  match r with
  | .next _ => none
  | .fault _ => none
  | .refused x => some x

/-- The fault an outcome names. -/
def fault? (r : Res) : Option Fault :=
  match r with
  | .next _ => none
  | .fault f => some f
  | .refused _ => none

/-! ### WellFormed: one ill-formed term for each check -/

/-- R68: a length is 1, 2 or 3. -/
theorem test_length_refused :
    ([0, 4].map fun n => (Descriptor.mk ⟨.NOP, []⟩ ⟨n, Config.codeNone⟩).wellFormed) = [false, false] ∧
      (Descriptor.mk ⟨.NOP, []⟩ ⟨1, Config.codeNone⟩).wellFormed = true := by decide

/-- R36: a computed symbol where the family computes no such flag: C for INC, N for ADD, H for AND, Z for NOP. -/
theorem test_code_refused :
    (Descriptor.mk ⟨.INC, [.reg8 .B]⟩ ⟨1, Config.codeZ0HC⟩).wellFormed = false ∧
      (Descriptor.mk ⟨.ADD, [.reg8 .A, .reg8 .B]⟩ ⟨1, Config.codeZNHC⟩).wellFormed = false ∧
      (Descriptor.mk ⟨.AND, [.reg8 .B]⟩ ⟨1, Config.codeZ0HC⟩).wellFormed = false ∧
      (Descriptor.mk ⟨.NOP, []⟩ ⟨1, Config.codeZ010⟩).wellFormed = false ∧
      (Descriptor.mk ⟨.INC, [.reg8 .B]⟩ ⟨1, Config.codeZ0Hk⟩).wellFormed = true := by decide

/-- R65: a section has at most 256 keys; one ill-formed entry makes a table ill formed. -/
theorem test_table_refused :
    (OpcodeTable.mk (List.replicate 257 none) []).wellFormed = false ∧
      (OpcodeTable.mk [] (List.replicate 257 none)).wellFormed = false ∧
      (OpcodeTable.mk [some ⟨⟨.NOP, []⟩, ⟨0, Config.codeNone⟩⟩] []).wellFormed = false ∧
      (OpcodeTable.mk [] [some ⟨⟨.NOP, []⟩, ⟨0, Config.codeNone⟩⟩]).wellFormed = false ∧
      (OpcodeTable.mk [none] []).wellFormed = true := by decide +kernel

/-- R74: an absent key has one byte, or two under the prefix. -/
theorem test_absent_refused :
    (Instr.absent []).wellFormed = false ∧ (Instr.absent [0xCB, 0, 0]).wellFormed = false ∧
      (Instr.absent [0xFC]).wellFormed = true := by decide

/-- An entry that does not suit an instruction; `coreStep` refuses a table entry of that kind. -/
theorem test_entry_refused :
    Instr.nop.suits ⟨1, Config.codeZ0HC⟩ = false ∧
      refusal? (coreStep { base with params := ⟨⟨[some ⟨⟨.NOP, []⟩, ⟨1, Config.codeZ0HC⟩⟩], []⟩, 0xCB⟩ }) =
        some .illFormedTable := by decide +kernel

/-- R36, R192: the start of a run refuses an ill-formed table, a seed over 65,536 bytes and memory out of canonical form. -/
theorem test_launch_refused :
    launch { Launch.reference with params := ⟨⟨List.replicate 257 none, []⟩, 0xCB⟩ } = none ∧
      launch { Launch.reference with mem := [(5, 0)] } = none ∧ launch { Launch.reference with mem := [(9, 1), (5, 1)] } = none ∧
      launch { Launch.reference with mem := [(65536, 1)] } = none := by decide +kernel

/-- R192: a seed over 65,536 bytes is refused (and StartValues: its first hypothesis is met). -/
theorem test_long_seed_refused :
    65536 < (List.replicate 65537 (0 : Byte)).length ∧
      ({ Launch.reference with seed := List.replicate 65537 0 } : Launch).accepted = false := by
  simp only [Launch.accepted, List.length_replicate]
  rw [show decide (65537 ≤ 65536) = false from rfl]
  simp only [Bool.and_false, Bool.false_and]
  decide

/-! ### Table and command texts -/

/-- R66, R72: names as the table spells them; C is a condition in JR and RET, a register in LD and RL. -/
theorem test_names :
    ["JR C,r8", "RET C", "LD (C),A", "RL C", "BIT 7,(HL)", "LD (HL-),A", "XYZ"].map (fun t => parseName t.toList) =
      [⟨.JR, [.cond .C, .r8]⟩, ⟨.RET, [.cond .C]⟩, ⟨.LD, [.indC, .reg8 .A]⟩, ⟨.RL, [.reg8 .C]⟩, ⟨.BIT, [.bit .n7, .ind .HL]⟩,
        ⟨.LD, [.indHLdec, .reg8 .A]⟩, ⟨.other "XYZ".toList, []⟩] := by decide +kernel

/-- R65: an entry is loaded from its three texts; a code of three symbols or a length that is no integer is refused. -/
theorem test_entries :
    (RawEntry.mk "ADD A,B".toList "1".toList "Z0HC".toList).load =
        some ⟨⟨.ADD, [.reg8 .A, .reg8 .B]⟩, ⟨1, Config.codeZ0HC⟩⟩ ∧
      (RawEntry.mk "NOP".toList "1".toList "---".toList).load = none ∧
      (RawEntry.mk "NOP".toList "x".toList "----".toList).load = none ∧
      loadTable [some ⟨"NOP".toList, "1".toList, "Z---".toList⟩] [] = none := by decide +kernel

/-- R76, R80: 197 primary and 72 prefixed entries of the reference table are admitted, 47 and 184 are not. -/
theorem test_admitted_counts :
    (Config.table.primary.countP fun d => d.any fun d => d.name.admitted) = 197 ∧
      (Config.table.secondary.countP fun d => d.any fun d => d.name.admitted) = 72 ∧
      (Config.table.primary.countP fun d => d.any fun d => !d.name.admitted && d.name.mnemonic != .PREFIX) = 47 ∧
      (Config.table.secondary.countP fun d => d.any fun d => !d.name.admitted) = 184 := by decide +kernel

/-! ### Decoding words written out from the spec's encodings -/

/-- Format I1: op = 0x80 | r (R88), 0x90 | r (R92), 0xB8 | r (R95), with r = 1 for C (R69). -/
theorem test_decode_alu :
    [[0x81], [0x91], [0xB9], [0xA1], [0xA9], [0xB1]].map (fun b => (decode Config.reference b).instr?) =
      [some .add_A_C, some .sub_C, some .cp_C, some .and_C, some .xor_C, some .or_C] := by decide +kernel

/-- Formats I2 and I3: the immediate follows, low byte first (R70); LD A,d8 is 0x06 | 7 << 3 (R121). -/
theorem test_decode_immediates :
    [[0x3E, 0x42], [0x21, 0x34, 0x12], [0x36, 0x07], [0xEA, 0x50, 0xFF]].map (fun b => (decode Config.reference b).instr?) =
      [some (.ld_A_d8 0x42), some (.ld_HL_d16 0x1234), some (.ld_indHL_d8 0x07), some (.ld_indA16_A 0xFF50)] := by
  decide +kernel

/-- Format CB: op2 = 0x40 | b << 3 | r (R113), 0x10 | r (R116), and the pattern rows of R80. -/
theorem test_decode_prefixed :
    [[0xCB, 0x7C], [0xCB, 0x16], [0xCB, 0x00], [0xCB, 0x3F], [0xCB, 0x86], [0xCB, 0xFF]].map
        (fun b => (decode Config.reference b).instr?) =
      [some .bit_7_H, some .rl_indHL, some (.rlc_r (.reg .B)), some (.srl_r (.reg .A)), some (.res_b_r .n0 .indHL),
        some (.set_b_r .n7 (.reg .A))] := by decide +kernel

/-- Control transfer: cc = op[4:3], NZ Z NC C (R69), in JR 0x20, CALL 0xC4, RET 0xC0; qq = op[5:4] in PUSH and POP. -/
theorem test_decode_control :
    [[0x38, 0xF0], [0xDC, 0x00, 0x40], [0xD8], [0xD5], [0xE1], [0xF3]].map (fun b => (decode Config.reference b).instr?) =
      [some (.jr_C_r8 0xF0), some (.call_C_a16 0x4000), some .ret_C, some .push_DE, some .pop_HL, some .di] := by
  decide +kernel

/-- Table words: bit 0 is the low bit of the first byte; a prefixed row has the PREFIX byte in bits 15..8 (log 19). -/
theorem test_table_words :
    [(8, 0x80), (24, 0x123431), (16, 0xCB7C), (16, 0x42E0), (8, 0xCB), (8, 0xFC)].map (fun x => decodeTableWord x.1 x.2) =
      [some .add_A_B, some (.ld_SP_d16 0x1234), some .bit_7_H, some (.ldh_indA8_A 0x42), some .prefix_CB,
        some (.absent [0xFC])] := by decide +kernel

/-- The placed word is what the next step runs, as the first instruction after reset. -/
theorem test_fetch_word :
    (match step (State.reset.withFetchWord 16 0xCB7C) with | .next t => t.flags == ⟨true, false, true, false⟩ && t.pc == 2 | _ => false) =
        true ∧
      (match step (State.reset.withFetchWord 8 0xCB) with | .next t => t.fault == some (.truncatedPrefix 0xFFFF [0xCB]) | _ => false) =
        true := by decide +kernel

/-! ### Vectors -/

/-- ADD: vectors V2, V4, V7, V8 of spec/95_test_vectors.md. -/
theorem test_add :
    gives 0x0100 [0x80] { base with regs := { base.regs with a := 0x3A, b := 0xC6 } } (fun s => { s with regs := { s.regs with a := 0x00 }, flags := ⟨true, false, true, true⟩, pc := 0x0101 }) = true ∧
    gives 0x0100 [0x80] { base with regs := { base.regs with a := 0xF0, b := 0x10 }, flags := ⟨false, false, true, false⟩ } (fun s => { s with regs := { s.regs with a := 0x00 }, flags := ⟨true, false, false, true⟩, pc := 0x0101 }) = true ∧
    gives 0x0100 [0x86] { base with regs := { base.regs with a := 0xFF, l := 0x00 }, mem := [(0xC000, 0x01)] } (fun s => { s with regs := { s.regs with a := 0x00 }, flags := ⟨true, false, true, true⟩, pc := 0x0101 }) = true ∧
    gives 0x0100 [0xC6, 0xFF] { base with regs := { base.regs with a := 0x01 } } (fun s => { s with regs := { s.regs with a := 0x00 }, flags := ⟨true, false, true, true⟩, pc := 0x0102 }) = true := by
  decide +kernel

/-- SUB: vectors V10, V12, V14, V15 of spec/95_test_vectors.md. -/
theorem test_sub :
    gives 0x0100 [0x90] { base with regs := { base.regs with a := 0x3E, b := 0x0F } } (fun s => { s with regs := { s.regs with a := 0x2F }, flags := ⟨false, true, true, false⟩, pc := 0x0101 }) = true ∧
    gives 0x0100 [0x90] { base with regs := { base.regs with a := 0x00, b := 0x01 } } (fun s => { s with regs := { s.regs with a := 0xFF }, flags := ⟨false, true, true, true⟩, pc := 0x0101 }) = true ∧
    gives 0x0100 [0x96] { base with regs := { base.regs with a := 0x10, l := 0x00 }, mem := [(0xC000, 0x01)] } (fun s => { s with regs := { s.regs with a := 0x0F }, flags := ⟨false, true, true, false⟩, pc := 0x0101 }) = true ∧
    gives 0x0100 [0xD6, 0x80] { base with regs := { base.regs with a := 0x7F } } (fun s => { s with regs := { s.regs with a := 0xFF }, flags := ⟨false, true, false, true⟩, pc := 0x0102 }) = true := by
  decide +kernel

/-- CP: vectors V16, V17, V18 of spec/95_test_vectors.md. -/
theorem test_cp :
    gives 0x0100 [0xB8] { base with regs := { base.regs with a := 0x3C, b := 0x2F } } (fun s => { s with flags := ⟨false, true, true, false⟩, pc := 0x0101 }) = true ∧
    gives 0x0100 [0xBE] { base with regs := { base.regs with a := 0x3C, l := 0x00 }, mem := [(0xC000, 0x40)] } (fun s => { s with flags := ⟨false, true, false, true⟩, pc := 0x0101 }) = true ∧
    gives 0x0100 [0xFE, 0x3C] { base with regs := { base.regs with a := 0x3C } } (fun s => { s with flags := ⟨true, true, false, false⟩, pc := 0x0102 }) = true := by
  decide +kernel

/-- INC of a byte: vectors V22, V23, V24 of spec/95_test_vectors.md. -/
theorem test_inc_byte :
    gives 0x0100 [0x04] { base with regs := { base.regs with b := 0xFF }, flags := ⟨false, false, false, true⟩ } (fun s => { s with regs := { s.regs with b := 0x00 }, flags := ⟨true, false, true, true⟩, pc := 0x0101 }) = true ∧
    gives 0x0100 [0x3C] { base with regs := { base.regs with a := 0xFF } } (fun s => { s with regs := { s.regs with a := 0x00 }, flags := ⟨true, false, true, false⟩, pc := 0x0101 }) = true ∧
    gives 0x0100 [0x34] { base with regs := { base.regs with l := 0x00 }, mem := [(0xC000, 0x7F)] } (fun s => { s with flags := ⟨false, false, true, false⟩, pc := 0x0101, mem := Memory.write 0xC000 0x80 s.mem }) = true := by
  decide +kernel

/-- DEC of a byte: vectors V26, V27, V28 of spec/95_test_vectors.md. -/
theorem test_dec_byte :
    gives 0x0100 [0x05] { base with regs := { base.regs with b := 0x10 } } (fun s => { s with regs := { s.regs with b := 0x0F }, flags := ⟨false, true, true, false⟩, pc := 0x0101 }) = true ∧
    gives 0x0100 [0x05] { base with regs := { base.regs with b := 0x00 }, flags := ⟨true, false, false, true⟩ } (fun s => { s with regs := { s.regs with b := 0xFF }, flags := ⟨false, true, true, true⟩, pc := 0x0101 }) = true ∧
    gives 0x0100 [0x35] { base with regs := { base.regs with l := 0x00 } } (fun s => { s with flags := ⟨false, true, true, false⟩, pc := 0x0101, mem := Memory.write 0xC000 0xFF s.mem }) = true := by
  decide +kernel

/-- INC and DEC of a 16-bit register: vectors V30, V33, V34, V37 of spec/95_test_vectors.md. -/
theorem test_inc_dec_word :
    gives 0x0100 [0x03] { base with regs := { base.regs with b := 0x00, c := 0xFF }, flags := ⟨true, true, true, true⟩ } (fun s => { s with regs := { s.regs with b := 0x01, c := 0x00 }, pc := 0x0101 }) = true ∧
    gives 0x0100 [0x33] { base with regs := { base.regs with sp := 0xFFFF } } (fun s => { s with regs := { s.regs with sp := 0x0000 }, pc := 0x0101 }) = true ∧
    gives 0x0100 [0x0B] { base with regs := { base.regs with b := 0x00, c := 0x00 } } (fun s => { s with regs := { s.regs with b := 0xFF, c := 0xFF }, pc := 0x0101 }) = true ∧
    gives 0x0100 [0x3B] { base with regs := { base.regs with sp := 0x0000 } } (fun s => { s with regs := { s.regs with sp := 0xFFFF }, pc := 0x0101 }) = true := by
  decide +kernel

/-- ADD HL,rr: vectors V39, V40, V41 of spec/95_test_vectors.md. -/
theorem test_add_hl :
    gives 0x0100 [0x29] { base with regs := { base.regs with h := 0x8A, l := 0x23 } } (fun s => { s with regs := { s.regs with h := 0x14, l := 0x46 }, flags := ⟨false, false, true, true⟩, pc := 0x0101 }) = true ∧
    gives 0x0100 [0x19] { base with regs := { base.regs with d := 0x00, e := 0x01, h := 0xFF, l := 0xFF }, flags := ⟨false, true, false, false⟩ } (fun s => { s with regs := { s.regs with h := 0x00, l := 0x00 }, flags := ⟨false, false, true, true⟩, pc := 0x0101 }) = true ∧
    gives 0x0100 [0x39] { base with regs := { base.regs with h := 0x10, l := 0x00, sp := 0x7000 }, flags := ⟨true, false, false, false⟩ } (fun s => { s with regs := { s.regs with h := 0x80 }, pc := 0x0101 }) = true := by
  decide +kernel

/-- AND: vectors V44, V45, V46 of spec/95_test_vectors.md. -/
theorem test_and :
    gives 0x0100 [0xA0] { base with regs := { base.regs with a := 0xF0, b := 0x0F }, flags := ⟨false, true, false, true⟩ } (fun s => { s with regs := { s.regs with a := 0x00 }, flags := ⟨true, false, true, false⟩, pc := 0x0101 }) = true ∧
    gives 0x0100 [0xA6] { base with regs := { base.regs with a := 0xFF, l := 0x00 }, mem := [(0xC000, 0x81)] } (fun s => { s with regs := { s.regs with a := 0x81 }, flags := ⟨false, false, true, false⟩, pc := 0x0101 }) = true ∧
    gives 0x0100 [0xE6, 0x01] { base with regs := { base.regs with a := 0x03 } } (fun s => { s with regs := { s.regs with a := 0x01 }, flags := ⟨false, false, true, false⟩, pc := 0x0102 }) = true := by
  decide +kernel

/-- XOR: vectors V47, V49, V50 of spec/95_test_vectors.md. -/
theorem test_xor :
    gives 0x0100 [0xAF] { base with regs := { base.regs with a := 0x5A }, flags := ⟨false, true, true, true⟩ } (fun s => { s with regs := { s.regs with a := 0x00 }, flags := ⟨true, false, false, false⟩, pc := 0x0101 }) = true ∧
    gives 0x0100 [0xAE] { base with regs := { base.regs with a := 0x00, l := 0x00 } } (fun s => { s with flags := ⟨true, false, false, false⟩, pc := 0x0101 }) = true ∧
    gives 0x0100 [0xEE, 0xFF] { base with regs := { base.regs with a := 0x0F } } (fun s => { s with regs := { s.regs with a := 0xF0 }, pc := 0x0102 }) = true := by
  decide +kernel

/-- OR: vectors V51, V53, V54 of spec/95_test_vectors.md. -/
theorem test_or :
    gives 0x0100 [0xB0] { base with regs := { base.regs with a := 0x00, b := 0x00 }, flags := ⟨false, true, true, true⟩ } (fun s => { s with flags := ⟨true, false, false, false⟩, pc := 0x0101 }) = true ∧
    gives 0x0100 [0xB6] { base with regs := { base.regs with a := 0x01, l := 0x00 }, mem := [(0xC000, 0x80)] } (fun s => { s with regs := { s.regs with a := 0x81 }, pc := 0x0101 }) = true ∧
    gives 0x0100 [0xF6, 0x00] { base with regs := { base.regs with a := 0x00 } } (fun s => { s with flags := ⟨true, false, false, false⟩, pc := 0x0102 }) = true := by
  decide +kernel

/-- BIT: vectors V55, V56, V58 of spec/95_test_vectors.md. -/
theorem test_bit :
    gives 0x0100 [0xCB, 0x7C] { base with regs := { base.regs with h := 0x80 }, flags := ⟨true, false, false, true⟩ } (fun s => { s with flags := ⟨false, false, true, true⟩, pc := 0x0102 }) = true ∧
    gives 0x0100 [0xCB, 0x7C] { base with regs := { base.regs with h := 0x7F } } (fun s => { s with flags := ⟨true, false, true, false⟩, pc := 0x0102 }) = true ∧
    gives 0x0100 [0xCB, 0x5E] { base with regs := { base.regs with l := 0x00 }, mem := [(0xC000, 0x08)] } (fun s => { s with flags := ⟨false, false, true, false⟩, pc := 0x0102 }) = true := by
  decide +kernel

/-- RL: vectors V60, V61, V62, V63 of spec/95_test_vectors.md. -/
theorem test_rl :
    gives 0x0100 [0xCB, 0x10] { base with regs := { base.regs with b := 0x80 } } (fun s => { s with regs := { s.regs with b := 0x00 }, flags := ⟨true, false, false, true⟩, pc := 0x0102 }) = true ∧
    gives 0x0100 [0xCB, 0x11] { base with regs := { base.regs with c := 0x01 }, flags := ⟨false, false, false, true⟩ } (fun s => { s with regs := { s.regs with c := 0x03 }, flags := ⟨false, false, false, false⟩, pc := 0x0102 }) = true ∧
    gives 0x0100 [0xCB, 0x17] { base with regs := { base.regs with a := 0x95 }, flags := ⟨false, false, false, true⟩ } (fun s => { s with regs := { s.regs with a := 0x2B }, pc := 0x0102 }) = true ∧
    gives 0x0100 [0xCB, 0x16] { base with regs := { base.regs with l := 0x00 }, mem := [(0xC000, 0x81)] } (fun s => { s with flags := ⟨false, false, false, true⟩, pc := 0x0102, mem := Memory.write 0xC000 0x02 s.mem }) = true := by
  decide +kernel

/-- RLA: vectors V64, V65 of spec/95_test_vectors.md. -/
theorem test_rla :
    gives 0x0100 [0x17] { base with regs := { base.regs with a := 0x80 } } (fun s => { s with regs := { s.regs with a := 0x00 }, flags := ⟨false, false, false, true⟩, pc := 0x0101 }) = true ∧
    gives 0x0100 [0x17] { base with regs := { base.regs with a := 0x01 }, flags := ⟨true, false, false, true⟩ } (fun s => { s with regs := { s.regs with a := 0x03 }, flags := ⟨false, false, false, false⟩, pc := 0x0101 }) = true := by
  decide +kernel

/-- LD of a register: vectors V66, V68, V69, V70, V71 of spec/95_test_vectors.md. -/
theorem test_ld_register :
    gives 0x0100 [0x41] { base with regs := { base.regs with b := 0x00, c := 0x99 }, flags := ⟨true, true, true, true⟩ } (fun s => { s with regs := { s.regs with b := 0x99 }, pc := 0x0101 }) = true ∧
    gives 0x0100 [0x06, 0xAB] base (fun s => { s with regs := { s.regs with b := 0xAB }, pc := 0x0102 }) = true ∧
    gives 0x0100 [0x01, 0x34, 0x12] base (fun s => { s with regs := { s.regs with b := 0x12, c := 0x34 }, pc := 0x0103 }) = true ∧
    gives 0x0100 [0x31, 0xFE, 0xFF] base (fun s => { s with regs := { s.regs with sp := 0xFFFE }, pc := 0x0103 }) = true ∧
    gives 0x0100 [0xF9] { base with regs := { base.regs with h := 0xC1, l := 0x00 } } (fun s => { s with regs := { s.regs with sp := 0xC100 }, pc := 0x0101 }) = true := by
  decide +kernel

/-- LD through HL: vectors V72, V73, V74 of spec/95_test_vectors.md. -/
theorem test_ld_hl :
    gives 0x0100 [0x66] { base with regs := { base.regs with l := 0x00 }, mem := [(0xC000, 0x55)] } (fun s => { s with regs := { s.regs with h := 0x55 }, pc := 0x0101 }) = true ∧
    gives 0x0100 [0x74] { base with regs := { base.regs with l := 0x12 } } (fun s => { s with pc := 0x0101, mem := Memory.write 0xC012 0xC0 s.mem }) = true ∧
    gives 0x0100 [0x36, 0x77] { base with regs := { base.regs with l := 0x00 } } (fun s => { s with pc := 0x0102, mem := Memory.write 0xC000 0x77 s.mem }) = true := by
  decide +kernel

/-- LD through HL+ and HL-: vectors V75, V76, V77, V78 of spec/95_test_vectors.md. -/
theorem test_ld_hl_step :
    gives 0x0100 [0x22] { base with regs := { base.regs with a := 0x11, h := 0xFF, l := 0xFF } } (fun s => { s with regs := { s.regs with h := 0x00, l := 0x00 }, pc := 0x0101, mem := Memory.write 0xFFFF 0x11 s.mem }) = true ∧
    gives 0x0100 [0x32] { base with regs := { base.regs with a := 0x22, l := 0x00 } } (fun s => { s with regs := { s.regs with h := 0xBF, l := 0xFF }, pc := 0x0101, mem := Memory.write 0xC000 0x22 s.mem }) = true ∧
    gives 0x0100 [0x2A] { base with regs := { base.regs with l := 0x00 }, mem := [(0xC000, 0x33)] } (fun s => { s with regs := { s.regs with a := 0x33, l := 0x01 }, pc := 0x0101 }) = true ∧
    gives 0x0100 [0x3A] { base with regs := { base.regs with h := 0x00, l := 0x00 }, mem := [(0x0000, 0x44)] } (fun s => { s with regs := { s.regs with a := 0x44, h := 0xFF, l := 0xFF }, pc := 0x0101 }) = true := by
  decide +kernel

/-- LD through BC and DE: vectors V79, V80 of spec/95_test_vectors.md. -/
theorem test_ld_bc_de :
    gives 0x0100 [0x02] { base with regs := { base.regs with a := 0x5A, b := 0xC0, c := 0x05 } } (fun s => { s with pc := 0x0101, mem := Memory.write 0xC005 0x5A s.mem }) = true ∧
    gives 0x0100 [0x1A] { base with regs := { base.regs with d := 0xC0, e := 0x06 }, mem := [(0xC006, 0xA5)] } (fun s => { s with regs := { s.regs with a := 0xA5 }, pc := 0x0101 }) = true := by
  decide +kernel

/-- LD with an absolute address: vectors V81, V82, V83, V84 of spec/95_test_vectors.md. -/
theorem test_ld_a16 :
    gives 0x0100 [0xEA, 0x00, 0xC1] { base with regs := { base.regs with a := 0x9C } } (fun s => { s with pc := 0x0103, mem := Memory.write 0xC100 0x9C s.mem }) = true ∧
    gives 0x0100 [0xFA, 0x00, 0xC1] { base with mem := [(0xC100, 0x3C)] } (fun s => { s with regs := { s.regs with a := 0x3C }, pc := 0x0103 }) = true ∧
    gives 0x0100 [0x08, 0x00, 0xC2] { base with regs := { base.regs with sp := 0xFFF8 } } (fun s => { s with pc := 0x0103, mem := Memory.write 0xC201 0xFF (Memory.write 0xC200 0xF8 s.mem) }) = true ∧
    gives 0x0100 [0x08, 0xFF, 0xFF] { base with regs := { base.regs with sp := 0x1234 } } (fun s => { s with pc := 0x0103, mem := Memory.write 0xFFFF 0x34 (Memory.write 0x0000 0x12 s.mem) }) = true := by
  decide +kernel

/-- LD (C) and LDH: vectors V85, V86, V87, V88 of spec/95_test_vectors.md. -/
theorem test_ld_io :
    gives 0x0100 [0xE2] { base with regs := { base.regs with a := 0x80, c := 0x47 } } (fun s => { s with pc := 0x0101, mem := Memory.write 0xFF47 0x80 s.mem }) = true ∧
    gives 0x0100 [0xF2] { base with regs := { base.regs with c := 0x44 }, mem := [(0xFF44, 0x90)] } (fun s => { s with regs := { s.regs with a := 0x90 }, pc := 0x0101 }) = true ∧
    gives 0x0100 [0xE0, 0x40] { base with regs := { base.regs with a := 0x91 } } (fun s => { s with pc := 0x0102, mem := Memory.write 0xFF40 0x91 s.mem }) = true ∧
    gives 0x0100 [0xF0, 0xFF] { base with mem := [(0xFFFF, 0x1F)] } (fun s => { s with regs := { s.regs with a := 0x1F }, pc := 0x0102 }) = true := by
  decide +kernel

/-- JR: vectors V90, V92, V94 of spec/95_test_vectors.md. -/
theorem test_jr :
    gives 0x0200 [0x18, 0xFB] base (fun s => { s with pc := 0x01FD }) = true ∧
    gives 0xFFF0 [0x18, 0x20] base (fun s => { s with pc := 0x0012 }) = true ∧
    gives 0x0000 [0x18, 0x80] base (fun s => { s with pc := 0xFF82 }) = true := by
  decide +kernel

/-- JR cc: vectors V95, V96, V98 of spec/95_test_vectors.md. -/
theorem test_jr_cc :
    gives 0x000A [0x20, 0xFB] base (fun s => { s with pc := 0x0007 }) = true ∧
    gives 0x000A [0x20, 0xFB] { base with flags := ⟨true, false, false, false⟩ } (fun s => { s with pc := 0x000C }) = true ∧
    gives 0x0100 [0x30, 0x10] { base with flags := ⟨false, false, false, true⟩ } (fun s => { s with pc := 0x0102 }) = true := by
  decide +kernel

/-- CALL: vectors V100, V101, V102 of spec/95_test_vectors.md. -/
theorem test_call :
    gives 0x0028 [0xCD, 0x95, 0x00] { base with regs := { base.regs with sp := 0xFFFE } } (fun s => { s with regs := { s.regs with sp := 0xFFFC }, pc := 0x0095, mem := Memory.write 0xFFFC 0x2B s.mem }) = true ∧
    gives 0xFFFD [0xCD, 0x00, 0x10] base (fun s => { s with regs := { s.regs with sp := 0xCFFE }, pc := 0x1000 }) = true ∧
    gives 0x0200 [0xCD, 0x00, 0x10] { base with regs := { base.regs with sp := 0x0001 } } (fun s => { s with regs := { s.regs with sp := 0xFFFF }, pc := 0x1000, mem := Memory.write 0xFFFF 0x03 (Memory.write 0x0000 0x02 s.mem) }) = true := by
  decide +kernel

/-- CALL cc: vectors V103, V104 of spec/95_test_vectors.md. -/
theorem test_call_cc :
    gives 0x0300 [0xDC, 0x00, 0x40] { base with flags := ⟨false, false, false, true⟩ } (fun s => { s with regs := { s.regs with sp := 0xCFFE }, pc := 0x4000, mem := Memory.write 0xCFFF 0x03 (Memory.write 0xCFFE 0x03 s.mem) }) = true ∧
    gives 0x0300 [0xDC, 0x00, 0x40] base (fun s => { s with pc := 0x0303 }) = true := by
  decide +kernel

/-- RET and RET cc: vectors V109, V110, V111 of spec/95_test_vectors.md. -/
theorem test_ret :
    gives 0x0100 [0xC9] { base with regs := { base.regs with sp := 0xFFFF }, mem := [(0x0000, 0x12), (0xFFFF, 0x34)] } (fun s => { s with regs := { s.regs with sp := 0x0001 }, pc := 0x1234 }) = true ∧
    gives 0x0100 [0xC8] { base with regs := { base.regs with sp := 0xFFFC }, flags := ⟨true, false, false, false⟩, mem := [(0xFFFC, 0x34), (0xFFFD, 0x12)] } (fun s => { s with regs := { s.regs with sp := 0xFFFE }, pc := 0x1234 }) = true ∧
    gives 0x0100 [0xC0] { base with regs := { base.regs with sp := 0xFFFC }, flags := ⟨true, false, false, false⟩, mem := [(0xFFFC, 0x34), (0xFFFD, 0x12)] } (fun s => { s with pc := 0x0101 }) = true := by
  decide +kernel

/-- PUSH: vectors V114, V116 of spec/95_test_vectors.md. -/
theorem test_push :
    gives 0x0100 [0xC5] { base with regs := { base.regs with b := 0x12, c := 0x34, sp := 0xFFFE } } (fun s => { s with regs := { s.regs with sp := 0xFFFC }, pc := 0x0101, mem := Memory.write 0xFFFD 0x12 (Memory.write 0xFFFC 0x34 s.mem) }) = true ∧
    gives 0x0100 [0xE5] { base with regs := { base.regs with h := 0xA1, l := 0xB2, sp := 0x0001 } } (fun s => { s with regs := { s.regs with sp := 0xFFFF }, pc := 0x0101, mem := Memory.write 0xFFFF 0xB2 (Memory.write 0x0000 0xA1 s.mem) }) = true := by
  decide +kernel

/-- POP: vectors V117, V119 of spec/95_test_vectors.md. -/
theorem test_pop :
    gives 0x0100 [0xC1] { base with regs := { base.regs with sp := 0xFFFC }, mem := [(0xFFFC, 0x34), (0xFFFD, 0x12)] } (fun s => { s with regs := { s.regs with b := 0x12, c := 0x34, sp := 0xFFFE }, pc := 0x0101 }) = true ∧
    gives 0x0100 [0xE1] { base with regs := { base.regs with sp := 0xFFFF }, mem := [(0x0000, 0xAB), (0xFFFF, 0xCD)] } (fun s => { s with regs := { s.regs with h := 0xAB, l := 0xCD, sp := 0x0001 }, pc := 0x0101 }) = true := by
  decide +kernel

/-- DI and NOP: vectors V121, V123 of spec/95_test_vectors.md. -/
theorem test_di_nop :
    gives 0x0150 [0xF3] { base with ime := true, irq := irqs [true, false, false, false, false] [true, false, false, false, false] } (fun s => { s with ime := false, pc := 0x0151 }) = true ∧
    gives 0xFFFF [0x00] base (fun s => { s with pc := 0x0000 }) = true := by
  decide +kernel

/-- immediates past 0xFFFF: vectors V133, V134 of spec/95_test_vectors.md. -/
theorem test_immediate_wrap :
    gives 0xFFFF [0x3E] { base with mem := [(0x0000, 0x42)] } (fun s => { s with regs := { s.regs with a := 0x42 }, pc := 0x0001 }) = true ∧
    gives 0xFFFE [0x01, 0x34] { base with mem := [(0x0000, 0x12)] } (fun s => { s with regs := { s.regs with b := 0x12, c := 0x34 }, pc := 0x0001 }) = true := by
  decide +kernel

/-- the three faults: vectors V124, V126, V130, V132 of spec/95_test_vectors.md. -/
theorem test_fault :
    gives 0x0200 [0xFC] { base with regs := { base.regs with a := 0x11 } } (fun s => { s with fault := some (.unknownOpcode 0x0200 [0xFC]) }) = true ∧
    gives 0x0200 [0xC3, 0x00, 0x01] base (fun s => { s with fault := some (.unimplementedInstruction 0x0200 ⟨.JP, [.a16]⟩) }) = true ∧
    gives 0x0200 [0xCB, 0x00] { base with regs := { base.regs with b := 0x80 } } (fun s => { s with fault := some (.unimplementedInstruction 0x0200 ⟨.RLC, [.reg8 .B]⟩) }) = true ∧
    gives 0xFFFF [0xCB] base (fun s => { s with fault := some (.truncatedPrefix 0xFFFF [0xCB]) }) = true := by
  decide +kernel

/-- the interrupt check: vectors V136, V137, V141 of spec/95_test_vectors.md. -/
theorem test_interrupt :
    gives 0x0100 [0x01, 0x34, 0x12] { base with regs := { base.regs with sp := 0xFFFE }, ime := true, irq := irqs [false, false, true, false, false] [false, false, true, false, false] } (fun s => { s with regs := { s.regs with b := 0x12, c := 0x34, sp := 0xFFFC }, ime := false, irq := irqs [false, false, true, false, false] [false, false, false, false, false], pc := 0x0050, mem := Memory.write 0xFFFD 0x01 (Memory.write 0xFFFC 0x03 s.mem) }) = true ∧
    gives 0x0100 [0x00] { base with regs := { base.regs with sp := 0xFFFE }, ime := true, irq := irqs [false, true, false, false, false] [true, true, false, false, false] } (fun s => { s with regs := { s.regs with sp := 0xFFFC }, ime := false, irq := irqs [false, true, false, false, false] [true, false, false, false, false], pc := 0x0048, mem := Memory.write 0xFFFD 0x01 (Memory.write 0xFFFC 0x01 s.mem) }) = true ∧
    gives 0x0100 [0x00] { base with regs := { base.regs with sp := 0xFFFE }, ime := true, irq := irqs [true, true, false, true, true] [false, false, true, false, false] } (fun s => { s with pc := 0x0101 }) = true := by
  decide +kernel

/-- the check after a transfer and after a fault: vectors V142, V143, V146 of spec/95_test_vectors.md. -/
theorem test_interrupt_after_transfer :
    gives 0x0100 [0x18, 0x10] { base with regs := { base.regs with sp := 0xFFFE }, ime := true, irq := irqs [false, true, false, false, false] [false, true, false, false, false] } (fun s => { s with regs := { s.regs with sp := 0xFFFC }, ime := false, irq := irqs [false, true, false, false, false] [false, false, false, false, false], pc := 0x0048, mem := Memory.write 0xFFFD 0x01 (Memory.write 0xFFFC 0x12 s.mem) }) = true ∧
    gives 0x0100 [0xCD, 0x00, 0x30] { base with regs := { base.regs with sp := 0xFFFE }, ime := true, irq := irqs [false, false, false, true, false] [false, false, false, true, false] } (fun s => { s with regs := { s.regs with sp := 0xFFFA }, ime := false, irq := irqs [false, false, false, true, false] [false, false, false, false, false], pc := 0x0058, mem := Memory.write 0xFFFD 0x01 (Memory.write 0xFFFC 0x03 (Memory.write 0xFFFB 0x30 s.mem)) }) = true ∧
    gives 0x0100 [0xFC] { base with regs := { base.regs with sp := 0xFFFE }, ime := true, irq := irqs [true, false, false, false, false] [true, false, false, false, false] } (fun s => { s with fault := some (.unknownOpcode 0x0100 [0xFC]) }) = true := by
  decide +kernel

/-! ### The debug sequencer (traces D1 to D3) -/

/-- A state the gate has suspended at a breakpoint, with one command to come. -/
def pausedWith (line : String) : State :=
  { base with
    bp := [some 0x0100, none], stepping := true, mode := .pausedAtBreakpoint, suspended := true, host := [.command line.toList] }

/-- D1: `continue` runs the instruction at the breakpoint without a second pause; `break` reports the next index. -/
theorem test_commands :
    (match step (pausedWith "continue") with | .next t => t.pc == 0x0101 && !t.stepping && t.mode == .running && !t.suspended | _ => false) =
        true ∧
      (match step (pausedWith "step") with | .next t => t.pc == 0x0101 && t.stepping && !t.suspended | _ => false) = true ∧
      (match step (pausedWith "b 0x0150") with
        | .next t => t.bp == [some 0x0100, none, some 0x0150] && t.replies == [.index 3] && t.suspended && t.pc == 0x0100
        | _ => false) = true ∧
      (match step (pausedWith "d 1") with | .next t => t.bp == [none, none] && t.suspended | _ => false) = true ∧
      (match step (pausedWith "d 2") with
        | .next t => t.bp == [some 0x0100, none] && t.replies == [.invalidDebugCommand] | _ => false) = true := by decide +kernel

/-- Stops of the run loop: a pause without a command, a run the host has stopped, a request outside the sources, a fault. -/
theorem test_stops :
    refusal? (step { base with suspended := true, stepping := true }) = some .awaitingCommand ∧
      refusal? (step { base with ended := true }) = some .runEnded ∧
      refusal? (step { base with host := [.request 5] }) = some .noSuchMove ∧
      fault? (step { base with fault := some (.unknownOpcode 0x0100 [0xFC]) }) = some (.unknownOpcode 0x0100 [0xFC]) := by
  decide +kernel

/-! ### Witnesses: for each statement with hypotheses, terms that meet them together -/

/-- RelativeJumps, CallsPushReturnAddress, ReturnsPopPC: every condition holds of some flags and fails of some. -/
theorem test_witness_conditions (c : Cond) :
    holds c ⟨decide (c = .Z), false, false, decide (c = .C)⟩ ∧ ¬ holds c ⟨decide (c = .NZ), false, false, decide (c = .NC)⟩ := by
  cases c <;> simp [holds]

/-- CompositeIsItsHalves. -/
theorem test_witness_pairs :
    (Pair.HL, Reg8.H, Reg8.L) ∈ [(Pair.BC, Reg8.B, Reg8.C), (.DE, .D, .E), (.HL, .H, .L)] ∧ Reg8.A ≠ .H ∧ Reg8.A ≠ .L := by decide

/-- FaultsExactlyOutsideAdmitted, both clauses; CodeForcesAndKeepsFlags and NoResultTakesForcedFlags. -/
theorem test_witness_admitted :
    (Instr.halt.view = .named ⟨.HALT, []⟩ ∧ (FormName.mk .HALT []).admitted = false) ∧
      (Instr.rla.view = .named ⟨.RLA, []⟩ ∧ (FormName.mk .RLA []).admitted = true ∧
        completes (exec .rla (base.hold ⟨1, Config.code000C⟩)) = true) ∧
      Instr.ld_A_B.view = .named ⟨.LD, [.reg8 .A, .reg8 .B]⟩ ∧
      (FormName.mk .LD [.reg8 .A, .reg8 .B]).computes = some ⟨false, false, false⟩ ∧
      completes (exec .ld_A_B (base.hold ⟨1, Config.codek001⟩)) = true := by decide

/-- DecodeOfEncode: a named instruction, the cut prefix with nothing after it, and a hole. -/
theorem test_witness_encode :
    (encode Config.reference .bit_7_H = some [0xCB, 0x7C] ∧ Instr.bit_7_H.view ≠ .truncated) ∧
      encode Config.reference .prefix_CB = some [0xCB] ∧ encode Config.reference (.absent [0xFC]) = some [0xFC] ∧
      Instr.bit_7_H.view = .named ⟨.BIT, [.bit .n7, .reg8 .H]⟩ ∧ (0xFC : Byte) ∈ holes := by decide +kernel

/-- EncodeOfDecode, with and without bytes after the instruction. -/
theorem test_witness_decode :
    decode Config.reference [0x31, 0xFE, 0xFF, 0x00] = .instr (.ld_SP_d16 0xFFFE) ⟨3, Config.codeNone⟩ ∧
      decode Config.reference [0xCB, 0x11, 0x00, 0x00] = .instr .rl_C ⟨2, Config.codeZ00C⟩ := by decide +kernel

/-- HolesFault, AbsentKeyFaults (both clauses), PrefixAtLastAddressFaults, UnknownNameFaults (both clauses),
FaultingStepWritesNothing. -/
theorem test_witness_faults :
    ((place 0x0100 [0xFC] base).params = Config.reference ∧ (place 0x0100 [0xFC] base).readByte 0x0100 ∈ holes ∧
        (0xFC : Byte) ≠ Config.reference.prefixByte ∧ sectionEntry Config.table.primary 0xFC = none) ∧
      (let s := place 0x0100 [0xCB, 0x42] { base with params := ⟨⟨[], []⟩, 0xCB⟩ }
       s.readByte s.pc = s.params.prefixByte ∧ s.pc ≠ 0xFFFF ∧
         sectionEntry s.params.table.secondary (s.readByte (s.pc + 1)) = none) ∧
      (let s := place 0xFFFF [0xCB] base
       s.pc = 0xFFFF ∧ s.readByte 0xFFFF = s.params.prefixByte) ∧
      (let s := { base with params := ⟨⟨[some ⟨⟨.other ['X'], []⟩, ⟨1, Config.codeNone⟩⟩], []⟩, 0xCB⟩ }
       s.readByte s.pc ≠ s.params.prefixByte ∧
         sectionEntry s.params.table.primary (s.readByte s.pc) = some ⟨⟨.other ['X'], []⟩, ⟨1, Config.codeNone⟩⟩ ∧
         (FormName.mk (.other ['X']) []).builder = none) ∧
      (let s := place 0x0100 [0xCB, 0x00] { base with params := ⟨⟨[], [some ⟨⟨.other ['X'], []⟩, ⟨2, Config.codeNone⟩⟩]⟩, 0xCB⟩ }
       s.readByte s.pc = s.params.prefixByte ∧ s.pc ≠ 0xFFFF ∧
         sectionEntry s.params.table.secondary (s.readByte (s.pc + 1)) = some ⟨⟨.other ['X'], []⟩, ⟨2, Config.codeNone⟩⟩) ∧
      (base.fault = none ∧
        (match coreStep (place 0x0100 [0xFC] base) with | .next t => t.fault != none | _ => false) = true) := by decide +kernel

/-- StepRunsDecodedInstruction: a free boundary, for both clauses. -/
theorem test_witness_free : base.Free ∧ (place 0x0100 [0xFC] base).Free := by
  constructor <;> constructor <;> rfl

theorem test_witness_free_decodes :
    (decode base.params (bytesAtPc base) = .instr .nop ⟨1, Config.codeNone⟩ ∧ Instr.nop.suits ⟨1, Config.codeNone⟩ = true ∧
        completes (exec .nop (base.hold ⟨1, Config.codeNone⟩)) = true) ∧
      decode base.params (bytesAtPc (place 0x0100 [0xFC] base)) = .undecodable (.absent [0xFC]) ∧
      completes (exec (.absent [0xFC]) (place 0x0100 [0xFC] base)) = true := by decide +kernel

/-- StepRunsDecodedInstruction at 0xFFFF: an immediate read from 0x0000 on (D16), and a prefix byte that none follows (R75). -/
theorem test_witness_free_wraps :
    ((place 0xFFFF [0x3E, 0x42] base).Free ∧ (place 0xFFFF [0xCB, 0x7C] base).Free) ∧
      bytesAtPc (place 0xFFFF [0x3E, 0x42] base) = [0x3E, 0x42, 0x00, 0x00] ∧
      decode base.params (bytesAtPc (place 0xFFFF [0x3E, 0x42] base)) = .instr (.ld_A_d8 0x42) ⟨2, Config.codeNone⟩ ∧
      bytesAtPc (place 0xFFFF [0xCB, 0x7C] base) = [0xCB] ∧
      decode base.params (bytesAtPc (place 0xFFFF [0xCB, 0x7C] base)) = .undecodable .prefix_CB := by
  refine ⟨⟨?_, ?_⟩, ?_⟩
  · constructor <;> rfl
  · constructor <;> rfl
  · decide +kernel

/-- StepKeepsInv, WellFormedTableAlwaysSteps, StepKeepsConfiguration, StepNeverSetsIme: a state paused at a breakpoint. -/
theorem test_witness_paused_inv : (pausedWith "step").Inv :=
  ⟨rfl, by decide +kernel, by decide, by decide⟩

theorem test_witness_paused_steps :
    completes (step (pausedWith "step")) = true ∧ (pausedWith "step").ime = false ∧ completes (step base) = true := by
  decide +kernel

/-- LaunchMeetsInv, StartValues: the reference inputs start in `State.reset`; a seeded start in debug mode. -/
theorem test_witness_launch :
    launch Launch.reference = some State.reset ∧
      (launch { Launch.reference with seed := [0xF3, 0x18], debugMode := true, mem := [(1, 5), (2, 7)] }).map
          (fun s => (s.mem, s.stepping, s.mode)) = some ([(0, 0xF3), (1, 0x18), (2, 7)], true, .steppingOneInstruction) := by
  decide +kernel

/-- LaunchMeetsInv, StartValues: the longest seed the start accepts, and one byte less, which leaves 0xFFFF beyond the seed. -/
theorem test_witness_longest_seed :
    ({ Launch.reference with seed := List.replicate 65536 0x00 } : Launch).accepted = true ∧
      ({ Launch.reference with seed := List.replicate 65535 0x00 } : Launch).accepted = true ∧
      (0xFFFF : Word).toNat < (List.replicate 65536 (0x00 : Byte)).length ∧
      (List.replicate 65535 (0x00 : Byte)).length ≤ (0xFFFF : Word).toNat := by
  have table : Launch.reference.params.table.wellFormed = true := by decide +kernel
  have mem : Launch.reference.mem.wf = true := rfl
  simp only [Launch.accepted, table, mem, List.length_replicate]
  decide

/-- StartValues: an ill-formed table (a length of 0) is refused, and so is a memory list out of order (log 29). -/
theorem test_witness_refused_starts :
    (OpcodeTable.mk [some ⟨⟨.NOP, []⟩, ⟨0, Config.codeNone⟩⟩] []).wellFormed = false ∧
      launch { Launch.reference with params := ⟨⟨[some ⟨⟨.NOP, []⟩, ⟨0, Config.codeNone⟩⟩], []⟩, 0xCB⟩ } = none ∧
      launch { Launch.reference with mem := [(2, 7), (1, 5)] } = none := by decide +kernel

/-- Two sources pending, the second enabled. -/
def asking (ime : Bool) : State := { base with ime := ime, irq := irqs [false, true, true, false, false] [true, true, true, false, false] }

/-- VectoringEffect, CheckTakesFirstPending (its three cases), PendingBitsChangeOnlySo (cleared). -/
theorem test_witness_interrupts :
    (asking true).irq[1]? = some ⟨true, true, 0x0048⟩ ∧ (asking false).ime = false ∧
      ((asking true).ime = true ∧ (asking true).irq[0]? = some ⟨false, true, 0x0040⟩) ∧
      (∀ src ∈ base.irq, ¬(src.pending = true ∧ src.enable = true)) ∧ ({ base with ime := true } : State).ime = true ∧
      (match step (asking true) with
        | .next t => t.irq[1]? == some ⟨true, false, 0x0048⟩ && t.irq[2]? == some ⟨true, true, 0x0050⟩ && t.pc == 0x0048
        | _ => false) = true := by decide +kernel

/-- RequestSetsPending (both clauses at the boundary of the range), PendingBitsChangeOnlySo (set). -/
theorem test_witness_requests :
    (base.fault = none ∧ base.ended = false ∧ base.irq.length = 5) ∧
      (match step { base with host := [.request 4] } with
        | .next t => base.irq[4]? == some ⟨false, false, 0x0060⟩ && t.irq[4]? == some ⟨false, true, 0x0060⟩
        | _ => false) = true ∧
      refusal? (step { base with host := [.request 5] }) = some .noSuchMove := by decide +kernel

/-- GatePauses, its three cases. -/
theorem test_witness_gate :
    (base.fault = none ∧ base.ended = false ∧ base.suspended = false ∧ base.host = []) ∧
      some base.pc ∈ ({ base with bp := [none, some 0x0100] } : State).bp ∧
      (some base.pc ∉ base.bp ∧ ({ base with stepping := true } : State).stepping = true) ∧ base.stepping = false := by decide

/-- StepCommandRunsOne, ContinueRunsOn, BreakAppendsSlot, DeleteLeavesGap (a live slot, a removed one), InvalidCommandChangesNothing. -/
theorem test_witness_commands :
    (parseCommand "step".toList = some .stepOne ∧ parseCommand "c".toList = some .resume ∧
        parseCommand "break 65535".toList = some (.setBreak 0xFFFF) ∧ parseCommand "delete 1".toList = some (.deleteSlot 1) ∧
        parseCommand "delete 2".toList = some (.deleteSlot 2) ∧ parseCommand "break 65536".toList = none) ∧
      ((pausedWith "c").fault = none ∧ (pausedWith "c").ended = false ∧ (pausedWith "c").suspended = true ∧
        (pausedWith "c").host = [.command "c".toList]) ∧
      (pausedWith "c").bp[0]? = some (some 0x0100) ∧ (pausedWith "c").bp[1]? = some none := by decide +kernel

end Sys2Proof.Tests
end

section
/-! ## One step of the run loop: what it keeps (spec 10_state R36 to R41, 60_exceptions R164) -/
namespace Sys2Proof.Machine

/-! ### One instruction step -/

/-- What `coreStep` answers is the boundary after an instruction's effect, with some entry in hand; a name without a handler counts
as an instruction that records its fault (R157). -/
theorem effect_of_coreStep {s t : State} (h : coreStep s = .next t) :
    ∃ e u, Effect (s.hold e) u ∧ t = u.boundary := by
  cases coreMove_of_coreStep h with
  | instr _ _ ran => exact ⟨_, _, effect_of_exec ran, rfl⟩
  | undecodable _ ran => exact ⟨s.entry, _, effect_of_exec ran, rfl⟩
  | noHandler _ => exact ⟨s.entry, _, .faulted _, rfl⟩

/-! ### Debug moves keep architectural state (R181) -/

theorem SameArch.withHost (s : State) (host : List HostMove) : SameArch s (s.withHost host) := by
  constructor <;> rfl

theorem SameArch.trans {s t u : State} (h : SameArch s t) (k : SameArch t u) : SameArch s u where
  regs := k.regs.trans h.regs
  pc := k.pc.trans h.pc
  flags := k.flags.trans h.flags
  mem := k.mem.trans h.mem
  ime := k.ime.trans h.ime
  irq := k.irq.trans h.irq
  fault := k.fault.trans h.fault
  params := k.params.trans h.params

theorem SameArch.cmdDelete (s : State) (k : Nat) : SameArch s (s.cmdDelete k) := by
  obtain h | h := cmdDelete_cases s k <;> rw [h] <;> constructor <;> rfl

/-- A command line changes debug state alone. -/
theorem SameArch.command (s : State) (line : List Char) : SameArch s (s.command line) := by
  obtain h | h | ⟨a, h⟩ | ⟨k, h⟩ | h := command_cases s line <;> rw [h]
  · constructor <;> rfl
  · constructor <;> rfl
  · constructor <;> rfl
  · exact .cmdDelete s k
  · constructor <;> rfl

/-- Seen from the architecture a step is a host's request, nothing at all, or one instruction step. -/
theorem step_arch_cases {s t : State} (h : step s = .next t) :
    (∃ i, s.host.head? = some (.request i) ∧ t.irq = setPending i true s.irq) ∨ SameArch s t ∨
      ∃ g, SameArch s g ∧ coreStep g = .next t := by
  obtain ⟨-, -, move⟩ := loopMove_of_step h
  cases move with
  | @request i rest move _ => exact .inl ⟨i, by rw [move]; rfl, rfl⟩
  | stop _ => exact .inr (.inl (by constructor <;> rfl))
  | wait _ _ => exact .inr (.inl (.withHost s _))
  | prompt _ _ _ => exact .inr (.inl ((SameArch.withHost s _).trans (.command _ _)))
  | resumed _ _ _ core => exact .inr (.inr ⟨_, (SameArch.withHost s _).trans (.command _ _), core⟩)
  | paused _ _ _ => exact .inr (.inl ((SameArch.withHost s _).trans (gate_same _).1))
  | ran _ _ _ core => exact .inr (.inr ⟨_, (SameArch.withHost s _).trans (gate_same _).1, core⟩)

/-! ### The invariant -/

/-- The invariant speaks of these fields alone. -/
theorem State.Inv.congr {s t : State} (inv : s.Inv) (mem : s.mem.wf = true → t.mem.wf = true) (params : t.params = s.params)
    (stepping : t.stepping = s.stepping) (mode : t.mode = s.mode) (suspended : t.suspended = s.suspended) : t.Inv where
  mem := mem inv.mem
  table := by rw [params]; exact inv.table
  mode := by rw [stepping, mode]; exact inv.mode
  pause := by rw [stepping, suspended]; exact inv.pause

theorem State.Inv.hold {s : State} (inv : s.Inv) (e : Entry) : (s.hold e).Inv := inv.congr id rfl rfl rfl rfl

theorem State.Inv.withHost {s : State} (inv : s.Inv) (host : List HostMove) : (s.withHost host).Inv :=
  inv.congr id rfl rfl rfl rfl

theorem State.Inv.reply {s : State} (inv : s.Inv) (r : Reply) : (s.reply r).Inv := inv.congr id rfl rfl rfl rfl

theorem State.Inv.effect {s t : State} (inv : s.Inv) (h : Effect s t) : t.Inv := by
  cases h with
  | faulted f => exact inv.congr id rfl rfl rfl rfl
  | ran control _ mem => exact inv.congr mem control.params control.stepping control.mode control.suspended

theorem State.Inv.boundary {s : State} (inv : s.Inv) : s.boundary.Inv := by
  obtain h | ⟨i, -, -, -, h⟩ := boundary_cases s <;> rw [h]
  · exact inv
  · exact inv.congr (State.wf_vector s i) rfl rfl rfl rfl

theorem State.Inv.coreStep {s t : State} (inv : s.Inv) (h : coreStep s = .next t) : t.Inv := by
  obtain ⟨e, u, effect, rfl⟩ := effect_of_coreStep h
  exact ((inv.hold e).effect effect).boundary

/-- A pause is entered with `stepping` set and a mode that is not Running (R179). -/
theorem State.Inv.gate {s : State} (inv : s.Inv) : s.gate.Inv := by
  unfold State.gate
  split
  · exact ⟨inv.mem, inv.table, by simp, by simp⟩
  · split
    next stepping => exact ⟨inv.mem, inv.table, by simp [stepping], fun _ => stepping⟩
    next => exact inv

theorem State.Inv.cmdDelete {s : State} (inv : s.Inv) (k : Nat) : (s.cmdDelete k).Inv := by
  obtain h | h := cmdDelete_cases s k <;> rw [h]
  · exact inv.congr id rfl rfl rfl rfl
  · exact inv.reply _

/-- Only `step` and `continue` touch what the invariant speaks of: both resume, and `continue` clears `stepping` with the mode set
to Running (R183, R184). -/
theorem State.Inv.command {s : State} (inv : s.Inv) (line : List Char) : (s.command line).Inv := by
  obtain h | h | ⟨a, h⟩ | ⟨k, h⟩ | h := command_cases s line <;> rw [h]
  · exact ⟨inv.mem, inv.table, inv.mode, nofun⟩
  · exact ⟨inv.mem, inv.table, ⟨fun _ => rfl, fun _ => rfl⟩, nofun⟩
  · exact inv.congr id rfl rfl rfl rfl
  · exact inv.cmdDelete k
  · exact inv.reply _

theorem State.Inv.step {s t : State} (inv : s.Inv) (h : step s = .next t) : t.Inv := by
  obtain ⟨-, -, move⟩ := loopMove_of_step h
  cases move with
  | request _ _ => exact inv.congr id rfl rfl rfl rfl
  | stop _ => exact inv.congr id rfl rfl rfl rfl
  | wait _ _ => exact inv.withHost _
  | prompt _ _ _ => exact (inv.withHost _).command _
  | resumed _ _ _ core => exact ((inv.withHost _).command _).coreStep core
  | paused _ _ _ => exact (inv.withHost _).gate
  | ran _ _ _ core => exact (inv.withHost _).gate.coreStep core

/-- Settles O39: every move of the run loop keeps the invariant (`State.Inv.step`). -/
theorem stepKeepsInv : Obligations.StepKeepsInv :=
  fun _ _ inv h => inv.step h

/-! ### Pending bits (R39) -/

/-- The step vectored to source `k` (R168, R169), as far as the interrupt controller and PC show it. -/
structure TookIrq (s t : State) (k : Nat) (src : IrqSource) : Prop where
  source : s.irq[k]? = some src
  enabled : src.enable = true
  imeBefore : s.ime = true
  imeAfter : t.ime = false
  cleared : t.irq = setPending k false s.irq
  pc : t.pc = src.vec

theorem State.vec_of_source {s : State} {k : Nat} {src : IrqSource} (h : s.irq[k]? = some src) : s.vec k = src.vec := by
  simp [State.vec, h]

theorem Effect.irq {s t : State} (h : Effect s t) : t.irq = s.irq := by
  cases h with
  | faulted f => rfl
  | ran control _ _ => exact control.irq

theorem Effect.ime {s t : State} (h : Effect s t) (on : t.ime = true) : s.ime = true := by
  cases h with
  | faulted f => exact on
  | ran _ ime _ => exact ime on

/-- An instruction step leaves the sources alone but for the one it vectors to. -/
theorem irq_of_coreStep {s t : State} (h : coreStep s = .next t) : t.irq = s.irq ∨ ∃ k src, TookIrq s t k src := by
  obtain ⟨e, u, effect, rfl⟩ := effect_of_coreStep h
  have irq : u.irq = s.irq := effect.irq
  obtain same | ⟨k, -, ime, first, vectored⟩ := boundary_cases u
  · exact .inl (by rw [same, irq])
  · obtain ⟨⟨src, source, -, enabled⟩, -⟩ := firstPending_some first
    refine .inr ⟨k, src, irq ▸ source, enabled, effect.ime ime, ?_, ?_, ?_⟩ <;> rw [vectored]
    · rfl
    · rw [State.vector_irq, irq]
    · exact State.vec_of_source source

/-- Writing a pending bit changes no source but the one written. -/
theorem setPending_changed {k i : Nat} {v : Bool} {l : List IrqSource} {a b : IrqSource} (ha : l[i]? = some a)
    (hb : (setPending k v l)[i]? = some b) (changed : b ≠ a) : k = i ∧ b.pending = v := by
  rw [setPending_getElem?, ha] at hb
  split at hb <;> cases hb
  next hk => exact ⟨hk, rfl⟩
  next => exact absurd rfl changed

/-- Settles O44: a step requests a source, leaves the sources alone, or vectors to one (`step_arch_cases`, `irq_of_coreStep`). -/
theorem pendingBitsChangeOnlySo : Obligations.PendingBitsChangeOnlySo := by
  intro s t i a b h ha hb
  by_cases changed : b = a
  · subst changed
    exact ⟨fun off on => (nomatch off.symm.trans on), fun on off => (nomatch on.symm.trans off)⟩
  have irq_changed (irq : t.irq = s.irq) : False := changed (by simpa [irq, ha, eq_comm] using hb)
  obtain ⟨k, move, irq⟩ | same | ⟨g, same, core⟩ := step_arch_cases h
  · obtain ⟨rfl, on⟩ := setPending_changed ha (irq ▸ hb) changed
    exact ⟨fun _ _ => move, fun _ off => (nomatch on.symm.trans off)⟩
  · exact (irq_changed same.irq).elim
  · obtain irq | ⟨k, src, took⟩ := irq_of_coreStep core
    · exact (irq_changed (irq.trans same.irq)).elim
    · have cleared : t.irq = setPending k false s.irq := same.irq ▸ took.cleared
      have source : s.irq[k]? = some src := same.irq ▸ took.source
      obtain ⟨rfl, off⟩ := setPending_changed ha (cleared ▸ hb) changed
      cases source.symm.trans ha
      exact ⟨fun _ on => (nomatch off.symm.trans on),
        fun _ _ => ⟨same.ime ▸ took.imeBefore, took.imeAfter, took.enabled, took.pc⟩⟩

end Sys2Proof.Machine
end

section
/-! ## Decoding under a well-formed table (spec 10_state R36, 30_encoding R68 to R77) -/
namespace Sys2Proof

/-! ### What a builder makes has the name it was found under (R77) -/

/-- Every instruction the builder makes stands for the name. -/
def Builder.Makes (b : Builder) (name : FormName) : Prop := ∀ rest i, b.build rest = some i → i.view = .named name

theorem Builder.Makes.plain {i : Instr} {name : FormName} (h : i.view = .named name) : (Builder.plain i).Makes name := by
  rintro rest _ ⟨⟩
  exact h

theorem Builder.Makes.imm8 {f : Byte → Instr} {name : FormName} (h : ∀ n, (f n).view = .named name) :
    (Builder.imm8 f).Makes name := by
  rintro (_ | ⟨n, rest⟩) _ ⟨⟩
  exact h n

theorem Builder.Makes.imm16 {f : Word → Instr} {name : FormName} (h : ∀ nn, (f nn).view = .named name) :
    (Builder.imm16 f).Makes name := by
  rintro (_ | ⟨lo, _ | ⟨hi, rest⟩⟩) _ ⟨⟩
  exact h _

/-- Every form of the list makes what it is listed as. -/
def Forms.Make (m : Mnemonic) (fs : Forms) : Prop := ∀ f ∈ fs, f.2.Makes ⟨m, f.1⟩

theorem Forms.Make.nil {m : Mnemonic} : Forms.Make m [] := nofun

theorem Forms.Make.cons {m : Mnemonic} {f : List Token × Builder} {fs : Forms} (h : f.2.Makes ⟨m, f.1⟩)
    (hs : Forms.Make m fs) : Forms.Make m (f :: fs) :=
  List.forall_mem_cons.mpr ⟨h, hs⟩

theorem Forms.Make.one {m : Mnemonic} {f : List Token × Builder} (h : f.2.Makes ⟨m, f.1⟩) : Forms.Make m [f] := .cons h .nil

theorem Forms.Make.append {m : Mnemonic} {fs gs : Forms} (hf : Forms.Make m fs) (hg : Forms.Make m gs) :
    Forms.Make m (fs ++ gs) :=
  List.forall_mem_append.mpr ⟨hf, hg⟩

theorem Forms.Make.map {m : Mnemonic} {α : Type} {l : List α} {f : α → List Token × Builder}
    (h : ∀ x, (f x).2.Makes ⟨m, (f x).1⟩) : Forms.Make m (l.map f) :=
  List.forall_mem_map.mpr fun x _ => h x

theorem Forms.Make.flatMap {m : Mnemonic} {α : Type} {l : List α} {f : α → Forms} (h : ∀ x, Forms.Make m (f x)) :
    Forms.Make m (l.flatMap f) :=
  List.forall_mem_flatMap.mpr fun x _ => h x

theorem Forms.Make.locs {m : Mnemonic} {lead : List Token} {f : Loc8 → Instr}
    (reg : ∀ r, (f (.reg r)).view = .named ⟨m, lead ++ [.reg8 r]⟩) (ind : (f .indHL).view = .named ⟨m, lead ++ [.ind .HL]⟩) :
    Forms.Make m (locForms lead f) :=
  .map fun
    | .reg r => .plain (reg r)
    | .indHL => .plain ind

/-- The forms of LD that stand alone. -/
theorem ldOtherForms_make : Forms.Make .LD ldOtherForms := by
  simp only [ldOtherForms, Forms.Make, List.forall_mem_cons]
  refine ⟨.imm8 fun _ => rfl, .plain rfl, .plain rfl, .plain rfl, .plain rfl, .plain rfl, .plain rfl, .plain rfl, .plain rfl,
    .plain rfl, .imm16 fun _ => rfl, .imm16 fun _ => rfl, .imm16 fun _ => rfl, .plain rfl, .plain rfl, .imm8 fun _ => rfl, nofun⟩

/-- The forms of a mnemonic make the instructions of that name. -/
theorem formsOf_make (m : Mnemonic) : Forms.Make m (formsOf m) := by
  cases m with
  | NOP | RLCA | RRCA | RLA | RRA | DAA | CPL | SCF | CCF | HALT | RETI | DI | EI => exact .one (.plain rfl)
  | STOP => exact .one (.imm8 fun _ => rfl)
  | RLC | RRC | RR | SLA | SRA | SWAP | SRL => exact .locs (fun _ => rfl) rfl
  | RL => exact .locs (by rintro ⟨⟩ <;> rfl) rfl
  | INC | DEC => exact .append (.locs (by rintro ⟨⟩ <;> rfl) rfl) (.map fun r => .plain (by cases r <;> rfl))
  | ADC | SBC | SUB | CP | AND | XOR | OR =>
    exact .append (.locs (by rintro ⟨⟩ <;> rfl) rfl) (.one (.imm8 fun _ => rfl))
  | ADD =>
    exact .append (.append (.append (.locs (by rintro ⟨⟩ <;> rfl) rfl) (.one (.imm8 fun _ => rfl)))
      (.map fun r => .plain (by cases r <;> rfl))) (.one (.imm8 fun _ => rfl))
  | JR => exact .append (.one (.imm8 fun _ => rfl)) (.map fun c => .imm8 (by cases c <;> exact fun _ => rfl))
  | CALL => exact .append (.one (.imm16 fun _ => rfl)) (.map fun c => .imm16 (by cases c <;> exact fun _ => rfl))
  | JP =>
    exact .append (.cons (.imm16 fun _ => rfl) (.one (.plain rfl))) (.map fun c => .imm16 (by cases c <;> exact fun _ => rfl))
  | RET => exact .append (.one (.plain rfl)) (.map fun c => .plain (by cases c <;> rfl))
  | PUSH | POP => exact .append (.map fun p => .plain (by cases p <;> rfl)) (.one (.plain rfl))
  | RST => exact .map fun k => .plain (by cases k <;> rfl)
  | LDH => exact .cons (.imm8 fun _ => rfl) (.one (.imm8 fun _ => rfl))
  | BIT => exact .flatMap fun b => .locs (by cases b <;> rintro ⟨⟩ <;> rfl) (by cases b <;> rfl)
  | RES | SET => exact .flatMap fun _ => .locs (fun _ => rfl) rfl
  | LD =>
    refine .append (.append (.append (.append (.append ?_ ?_) ?_) ?_) ?_) ?_
    · exact .flatMap fun d => .map fun x => .plain (by cases d <;> cases x <;> rfl)
    · exact .map fun d => .plain (by cases d <;> rfl)
    · exact .map fun x => .plain (by cases x <;> rfl)
    · exact .map fun d => .imm8 (by cases d <;> exact fun _ => rfl)
    · exact .map fun r => .imm16 (by cases r <;> exact fun _ => rfl)
    · exact ldOtherForms_make
  | _ => exact .nil

/-- A name's builder makes instructions of that name. -/
theorem FormName.builder_makes {name : FormName} {b : Builder} (h : name.builder = some b) : b.Makes name := by
  obtain ⟨f, found, rfl⟩ := Option.map_eq_some_iff.mp h
  have ops : f.1 = name.operands := by simpa using List.find?_some found
  have makes := formsOf_make name.mnemonic f (List.mem_of_find?_eq_some found)
  rwa [ops] at makes

/-! ### With enough bytes every entry is decoded (R70, R77) -/

/-- Two bytes are enough for every operand. -/
theorem Builder.build_of_two (b : Builder) (n0 n1 : Byte) (rest : List Byte) : ∃ i, b.build (n0 :: n1 :: rest) = some i := by
  cases b <;> exact ⟨_, rfl⟩

/-- With two bytes after the opcode, dispatch finds no handler, or an instruction of the descriptor's name. -/
theorem dispatch_of_two (d : Descriptor) (n0 n1 : Byte) (rest : List Byte) :
    dispatch d (n0 :: n1 :: rest) = .noHandler d.name ∨
      ∃ i, dispatch d (n0 :: n1 :: rest) = .instr i d.entry ∧ i.view = .named d.name := by
  cases hb : d.name.builder with
  | none => exact .inl (by rw [dispatch, hb])
  | some b =>
    obtain ⟨i, hi⟩ := b.build_of_two n0 n1 rest
    exact .inr ⟨i, by simp only [dispatch, hb, hi], FormName.builder_makes hb _ i hi⟩

/-- An entry of a section stands in its list. -/
theorem mem_of_sectionEntry {sec : List (Option Descriptor)} {key : Byte} {d : Descriptor} (h : sectionEntry sec key = some d) :
    some d ∈ sec := by
  have lookup : sec[key.toNat]? = some (some d) := by
    rw [sectionEntry, List.getD_eq_getElem?_getD] at h
    cases hk : sec[key.toNat]? with
    | none => simp [hk] at h
    | some entry => simpa [hk] using h
  exact List.mem_of_getElem? lookup

/-- Every entry a well-formed table gives is well formed (R36). -/
theorem OpcodeTable.wellFormed_entry {t : OpcodeTable} (wf : t.wellFormed = true) {key : Byte} {d : Descriptor}
    (h : sectionEntry t.primary key = some d ∨ sectionEntry t.secondary key = some d) : d.wellFormed = true := by
  simp only [OpcodeTable.wellFormed, Bool.and_eq_true, List.all_eq_true] at wf
  obtain ⟨⟨-, primary⟩, secondary⟩ := wf
  obtain h | h := h
  · exact primary _ (mem_of_sectionEntry h)
  · exact secondary _ (mem_of_sectionEntry h)

/-- What decoding finds under a well-formed table: no entry, an entry without a handler, or an instruction its entry suits. -/
inductive Decoded.Sound : Decoded → Prop where
  | undecodable (i : Instr) : Sound (.undecodable i)
  | noHandler (name : FormName) : Sound (.noHandler name)
  | instr {i : Instr} {e : Entry} (suits : i.suits e = true) : Sound (.instr i e)

theorem dispatch_sound {d : Descriptor} (wf : d.wellFormed = true) (n0 n1 : Byte) (rest : List Byte) :
    (dispatch d (n0 :: n1 :: rest)).Sound := by
  obtain h | ⟨i, h, hv⟩ := dispatch_of_two d n0 n1 rest <;> rw [h]
  · exact .noHandler _
  · exact .instr (by rw [Instr.suits, hv]; exact wf)

/-- Four bytes, or the byte of R75 alone, are never too few. -/
theorem decode_sound {p : Params} (wf : p.table.wellFormed = true) {bytes : List Byte}
    (fetched : bytes = [p.prefixByte] ∨ ∃ b0 b1 b2 b3, bytes = [b0, b1, b2, b3]) : (decode p bytes).Sound := by
  obtain rfl | ⟨b0, b1, b2, b3, rfl⟩ := fetched
  · simp only [decode, if_true]
    exact .undecodable _
  · simp only [decode]
    split
    · split
      next => exact .undecodable _
      next d hd => exact dispatch_sound (OpcodeTable.wellFormed_entry wf (.inr hd)) _ _ _
    · split
      next => exact .undecodable _
      next d hd => exact dispatch_sound (OpcodeTable.wellFormed_entry wf (.inl hd)) _ _ _

namespace Machine

theorem State.fetch_cases (s : State) :
    s.fetch = [s.params.prefixByte] ∨ ∃ b0 b1 b2 b3, s.fetch = [b0, b1, b2, b3] := by
  unfold State.fetch
  split
  next lone => exact .inl (by rw [lone.2])
  next => exact .inr ⟨_, _, _, _, rfl⟩

theorem afterExec_exec (i : Instr) (s : State) : ∃ t, afterExec (exec i s) = .next t := by
  obtain ⟨u, ran, -⟩ := exec_effect i s
  exact ⟨u.boundary, by rw [ran]; rfl⟩

/-- Settles O38: what a well-formed table decodes suits its instruction (`decode_sound`), and every instruction answers a next state
(`exec_effect`). -/
theorem wellFormedTableAlwaysSteps : Obligations.WellFormedTableAlwaysSteps := by
  intro s wf
  have sound := decode_sound wf s.fetch_cases
  unfold coreStep
  generalize decode s.params s.fetch = found at sound
  cases sound with
  | undecodable i => exact afterExec_exec i s
  | noHandler name => exact ⟨_, rfl⟩
  | @instr i e suits => simpa only [suits, if_true] using afterExec_exec i (s.hold e)

end Machine
end Sys2Proof
end

section
/-! ## Composite registers and flags (spec 10_state R23, R32, R33) -/
namespace Sys2Proof.Machine
open Sys2Proof.Claims

/-! ### Halves of 16-bit values as numbers (R12, R14) -/

theorem toNat_ofBytes (hi lo : Byte) : (ofBytes hi lo).toNat = hi.toNat * 256 + lo.toNat := by
  have low : lo.toNat < 2 ^ 8 := lo.isLt
  have high : hi.toNat < 2 ^ 8 := hi.isLt
  have shifted : hi.toNat <<< 8 % 2 ^ 16 = hi.toNat <<< 8 := Nat.mod_eq_of_lt (by rw [Nat.shiftLeft_eq]; omega)
  rw [ofBytes, BitVec.toNat_or, BitVec.toNat_shiftLeft, BitVec.toNat_setWidth_of_le (by decide),
    BitVec.toNat_setWidth_of_le (by decide), shifted, ← Nat.shiftLeft_add_eq_or_of_lt low, Nat.shiftLeft_eq]

theorem toNat_hiByte (v : Word) : (hiByte v).toNat = v.toNat / 256 := by
  have := v.isLt
  simp only [hiByte, BitVec.toNat_setWidth, BitVec.toNat_ushiftRight, Nat.shiftRight_eq_div_pow]
  omega

theorem toNat_loByte (v : Word) : (loByte v).toNat = v.toNat % 256 := by
  simp [loByte]

/-- Settles O56: the views are their halves by definition, so the numbers are those of `ofBytes`, `hiByte` and `loByte`. -/
theorem compositeIsItsHalves : Obligations.CompositeIsItsHalves := by
  intro s p hi lo hp
  have triples : (p = .BC ∧ hi = .B ∧ lo = .C) ∨ (p = .DE ∧ hi = .D ∧ lo = .E) ∨ (p = .HL ∧ hi = .H ∧ lo = .L) := by
    simpa using hp
  obtain ⟨rfl, rfl, rfl⟩ | ⟨rfl, rfl, rfl⟩ | ⟨rfl, rfl, rfl⟩ := triples <;>
  · refine ⟨toNat_ofBytes _ _, fun v => ⟨toNat_hiByte v, toNat_loByte v, fun r notHi notLo => ?_, rfl, rfl⟩⟩
    simp [Pair.toReg16, notHi, notLo]

/-! ### How flags come about (R32, R33) -/

/-- The outcome gives a value for just the flags the family computes; no family computes N (R85). -/
structure Computed.OfFamily (o : Computed) (m : Computes) : Prop where
  z : o.z.isSome = m.z
  n : o.n = none
  h : o.h.isSome = m.h
  c : o.c.isSome = m.c

theorem Computed.OfFamily.noResult : OfFamily .noResult ⟨false, false, false⟩ := ⟨rfl, rfl, rfl, rfl⟩

theorem Computed.eq_noResult {o : Computed} (h : o.OfFamily ⟨false, false, false⟩) : o = .noResult := by
  obtain ⟨z, n, h', c⟩ := o
  obtain ⟨hz, rfl, hh, hc⟩ := h
  simp_all [noResult]

/-- The outcome of a form of family `m`: it writes no flag itself, and ends by applying the flag code in hand to an outcome of the
family and committing a next PC (R29, R32, R78). -/
def Finishes (m : Computes) (s : State) (r : Res) : Prop :=
  ∃ u o target, r = .next (u.jump o target) ∧ u.flags = s.flags ∧ ControlUnchanged s u ∧ o.OfFamily m

theorem Finishes.retire {m : Computes} {s u : State} {o : Computed} (flags : u.flags = s.flags) (control : ControlUnchanged s u)
    (family : o.OfFamily m) : Finishes m s (.next (u.retire o)) :=
  ⟨u, o, u.nextPc, rfl, flags, control, family⟩

theorem aluAdd_finishes (x : Operand8) (s : State) : Finishes ⟨true, true, true⟩ s (aluAdd x s) :=
  .retire (by simp) (by constructor <;> simp) ⟨rfl, rfl, rfl, rfl⟩

theorem addHL_finishes (rr : Reg16) (s : State) : Finishes ⟨true, true, true⟩ s (addHL rr s) :=
  .retire (by simp) (by constructor <;> simp) ⟨rfl, rfl, rfl, rfl⟩

theorem aluSub_finishes (x : Operand8) (s : State) : Finishes ⟨true, true, true⟩ s (aluSub x s) :=
  .retire (by simp) (by constructor <;> simp) ⟨rfl, rfl, rfl, rfl⟩

theorem aluCp_finishes (x : Operand8) (s : State) : Finishes ⟨true, true, true⟩ s (aluCp x s) :=
  .retire rfl (by constructor <;> rfl) ⟨rfl, rfl, rfl, rfl⟩

theorem incByte_finishes (x : Loc8) (s : State) : Finishes ⟨true, true, false⟩ s (incByte x s) :=
  .retire (by simp) (by constructor <;> simp) ⟨rfl, rfl, rfl, rfl⟩

theorem decByte_finishes (x : Loc8) (s : State) : Finishes ⟨true, true, false⟩ s (decByte x s) :=
  .retire (by simp) (by constructor <;> simp) ⟨rfl, rfl, rfl, rfl⟩

theorem incWord_finishes (rr : Reg16) (s : State) : Finishes ⟨true, false, false⟩ s (incWord rr s) :=
  .retire (by simp) (by constructor <;> simp) ⟨rfl, rfl, rfl, rfl⟩

theorem decWord_finishes (rr : Reg16) (s : State) : Finishes ⟨true, false, false⟩ s (decWord rr s) :=
  .retire (by simp) (by constructor <;> simp) ⟨rfl, rfl, rfl, rfl⟩

theorem aluAnd_finishes (x : Operand8) (s : State) : Finishes ⟨true, false, false⟩ s (aluAnd x s) :=
  .retire (by simp) (by constructor <;> simp) ⟨rfl, rfl, rfl, rfl⟩

theorem aluXor_finishes (x : Operand8) (s : State) : Finishes ⟨true, false, false⟩ s (aluXor x s) :=
  .retire (by simp) (by constructor <;> simp) ⟨rfl, rfl, rfl, rfl⟩

theorem aluOr_finishes (x : Operand8) (s : State) : Finishes ⟨true, false, false⟩ s (aluOr x s) :=
  .retire (by simp) (by constructor <;> simp) ⟨rfl, rfl, rfl, rfl⟩

theorem testBit_finishes (b : Oct) (x : Loc8) (s : State) : Finishes ⟨true, false, false⟩ s (testBit b x s) :=
  .retire rfl (by constructor <;> rfl) ⟨rfl, rfl, rfl, rfl⟩

theorem rotateLeft_finishes (x : Loc8) (s : State) : Finishes ⟨true, false, true⟩ s (rotateLeft x s) :=
  .retire (by simp) (by constructor <;> simp) ⟨rfl, rfl, rfl, rfl⟩

theorem loadByte_finishes (d : Reg8) (v : Byte) (s : State) : Finishes ⟨false, false, false⟩ s (loadByte d v s) :=
  .retire (by simp) (by constructor <;> simp) .noResult

theorem loadWord_finishes (d : Reg16) (v : Word) (s : State) : Finishes ⟨false, false, false⟩ s (loadWord d v s) :=
  .retire (by simp) (by constructor <;> simp) .noResult

theorem loadFrom_finishes (d : Reg8) (a : Ea) (s : State) : Finishes ⟨false, false, false⟩ s (loadFrom d a s) :=
  .retire (by simp) (by constructor <;> simp) .noResult

theorem storeTo_finishes (a : Ea) (v : Byte) (s : State) : Finishes ⟨false, false, false⟩ s (storeTo a v s) :=
  .retire (by simp) (by constructor <;> simp) .noResult

theorem storeWord_finishes (a v : Word) (s : State) : Finishes ⟨false, false, false⟩ s (storeWord a v s) :=
  .retire rfl (by constructor <;> rfl) .noResult

theorem ifCond_finishes (cc : Cond) {taken : State → Res} {s : State} (h : Finishes ⟨false, false, false⟩ s (taken s)) :
    Finishes ⟨false, false, false⟩ s (ifCond cc taken s) := by
  unfold ifCond
  split
  · exact h
  · exact .retire rfl (by constructor <;> rfl) .noResult

theorem jumpRelative_finishes (n : Byte) (s : State) : Finishes ⟨false, false, false⟩ s (jumpRelative n s) :=
  ⟨s, .noResult, _, rfl, rfl, by constructor <;> rfl, .noResult⟩

theorem callTo_finishes (nn : Word) (s : State) : Finishes ⟨false, false, false⟩ s (callTo nn s) :=
  ⟨s.push16 s.nextPc, .noResult, nn, rfl, rfl, by constructor <;> rfl, .noResult⟩

theorem returnFromStack_finishes (s : State) : Finishes ⟨false, false, false⟩ s (returnFromStack s) :=
  ⟨s.pop16, .noResult, s.top16, rfl, rfl, by constructor <;> rfl, .noResult⟩

theorem pushPair_finishes (p : Pair) (s : State) : Finishes ⟨false, false, false⟩ s (pushPair p s) :=
  .retire rfl (by constructor <;> rfl) .noResult

theorem popPair_finishes (p : Pair) (s : State) : Finishes ⟨false, false, false⟩ s (popPair p s) :=
  .retire (by simp) (by constructor <;> simp) .noResult

theorem execNop_finishes (s : State) : Finishes ⟨false, false, false⟩ s (execNop s) :=
  .retire rfl (by constructor <;> rfl) .noResult

theorem execDi_finishes (s : State) : Finishes ⟨false, false, false⟩ s (execDi s) :=
  .retire rfl (by constructor <;> rfl) .noResult

/-- Every admitted form finishes as its family does. An absent key and a cut form (R75) have no name, and the other forms
outside the admitted subset have no family (R76). -/
theorem exec_finishes {i : Instr} {name : FormName} {m : Computes} (hv : i.view = .named name) (hm : name.computes = some m)
    (s : State) : Finishes m s (exec i s) := by
  cases i <;> cases hv <;> cases hm
  case add_A_d8 | add_A_B | add_A_C | add_A_D | add_A_E | add_A_H | add_A_L | add_A_indHL | add_A_A =>
    exact aluAdd_finishes _ s
  case add_HL_BC | add_HL_DE | add_HL_HL | add_HL_SP => exact addHL_finishes _ s
  case sub_d8 | sub_B | sub_C | sub_D | sub_E | sub_H | sub_L | sub_indHL | sub_A => exact aluSub_finishes _ s
  case cp_d8 | cp_B | cp_C | cp_D | cp_E | cp_H | cp_L | cp_indHL | cp_A => exact aluCp_finishes _ s
  case inc_B | inc_C | inc_D | inc_E | inc_H | inc_L | inc_indHL | inc_A => exact incByte_finishes _ s
  case dec_B | dec_C | dec_D | dec_E | dec_H | dec_L | dec_indHL | dec_A => exact decByte_finishes _ s
  case inc_BC | inc_DE | inc_HL | inc_SP => exact incWord_finishes _ s
  case dec_BC | dec_DE | dec_HL | dec_SP => exact decWord_finishes _ s
  case and_d8 | and_B | and_C | and_D | and_E | and_H | and_L | and_indHL | and_A => exact aluAnd_finishes _ s
  case xor_d8 | xor_B | xor_C | xor_D | xor_E | xor_H | xor_L | xor_indHL | xor_A => exact aluXor_finishes _ s
  case or_d8 | or_B | or_C | or_D | or_E | or_H | or_L | or_indHL | or_A => exact aluOr_finishes _ s
  case bit_0_B | bit_0_C | bit_0_D | bit_0_E | bit_0_H | bit_0_L | bit_0_indHL | bit_0_A | bit_1_B | bit_1_C | bit_1_D |
      bit_1_E | bit_1_H | bit_1_L | bit_1_indHL | bit_1_A | bit_2_B | bit_2_C | bit_2_D | bit_2_E | bit_2_H | bit_2_L |
      bit_2_indHL | bit_2_A | bit_3_B | bit_3_C | bit_3_D | bit_3_E | bit_3_H | bit_3_L | bit_3_indHL | bit_3_A | bit_4_B |
      bit_4_C | bit_4_D | bit_4_E | bit_4_H | bit_4_L | bit_4_indHL | bit_4_A | bit_5_B | bit_5_C | bit_5_D | bit_5_E |
      bit_5_H | bit_5_L | bit_5_indHL | bit_5_A | bit_6_B | bit_6_C | bit_6_D | bit_6_E | bit_6_H | bit_6_L | bit_6_indHL |
      bit_6_A | bit_7_B | bit_7_C | bit_7_D | bit_7_E | bit_7_H | bit_7_L | bit_7_indHL | bit_7_A =>
    exact testBit_finishes _ _ s
  case rla | rl_B | rl_C | rl_D | rl_E | rl_H | rl_L | rl_indHL | rl_A => exact rotateLeft_finishes _ s
  case ld_B_d8 | ld_C_d8 | ld_D_d8 | ld_E_d8 | ld_H_d8 | ld_L_d8 | ld_A_d8 | ld_B_B | ld_B_C | ld_B_D | ld_B_E | ld_B_H |
      ld_B_L | ld_B_A | ld_C_B | ld_C_C | ld_C_D | ld_C_E | ld_C_H | ld_C_L | ld_C_A | ld_D_B | ld_D_C | ld_D_D | ld_D_E |
      ld_D_H | ld_D_L | ld_D_A | ld_E_B | ld_E_C | ld_E_D | ld_E_E | ld_E_H | ld_E_L | ld_E_A | ld_H_B | ld_H_C | ld_H_D |
      ld_H_E | ld_H_H | ld_H_L | ld_H_A | ld_L_B | ld_L_C | ld_L_D | ld_L_E | ld_L_H | ld_L_L | ld_L_A | ld_A_B | ld_A_C |
      ld_A_D | ld_A_E | ld_A_H | ld_A_L | ld_A_A => exact loadByte_finishes _ _ s
  case ld_BC_d16 | ld_DE_d16 | ld_HL_d16 | ld_SP_d16 | ld_SP_HL => exact loadWord_finishes _ _ s
  case ldh_A_indA8 | ld_A_indA16 | ld_A_indBC | ld_A_indDE | ld_A_indHLinc | ld_A_indHLdec | ld_B_indHL | ld_C_indHL |
      ld_D_indHL | ld_E_indHL | ld_H_indHL | ld_L_indHL | ld_A_indHL | ld_A_indC => exact loadFrom_finishes _ _ s
  case ld_indHL_d8 | ldh_indA8_A | ld_indA16_A | ld_indBC_A | ld_indDE_A | ld_indHLinc_A | ld_indHLdec_A | ld_indHL_B |
      ld_indHL_C | ld_indHL_D | ld_indHL_E | ld_indHL_H | ld_indHL_L | ld_indHL_A | ld_indC_A => exact storeTo_finishes _ _ s
  case ld_indA16_SP => exact storeWord_finishes _ _ s
  case jr_r8 => exact jumpRelative_finishes _ s
  case jr_NZ_r8 | jr_Z_r8 | jr_NC_r8 | jr_C_r8 => exact ifCond_finishes _ (jumpRelative_finishes _ s)
  case call_NZ_a16 | call_Z_a16 | call_NC_a16 | call_C_a16 => exact ifCond_finishes _ (callTo_finishes _ s)
  case ret_NZ | ret_Z | ret_NC | ret_C => exact ifCond_finishes _ (returnFromStack_finishes s)
  case call_a16 => exact callTo_finishes _ s
  case ret => exact returnFromStack_finishes s
  case push_BC | push_DE | push_HL => exact pushPair_finishes _ s
  case pop_BC | pop_DE | pop_HL => exact popPair_finishes _ s
  case nop => exact execNop_finishes s
  case di => exact execDi_finishes s

/-- A completed admitted form applies the flag code in hand to an outcome of its family. -/
theorem flags_of_exec {i : Instr} {name : FormName} {m : Computes} {e : Entry} {s t : State} (hv : i.view = .named name)
    (hm : name.computes = some m) (h : exec i (s.hold e) = .next t) :
    ∃ o : Computed, o.OfFamily m ∧ t.flags = applyFlags e.flags o s.flags := by
  obtain ⟨u, o, target, ran, flags, control, family⟩ := exec_finishes hv hm (s.hold e)
  cases h.symm.trans ran
  exact ⟨o, family, by rw [State.jump_flags, control.entry, flags]; rfl⟩

/-- With no computed value a symbol forces its flag or keeps it (R33). -/
theorem FlagSym.apply_none (sym : FlagSym) (old : Bool) : FlagSym.apply sym none old = forced sym old := by
  cases sym <;> rfl

/-- Whatever is computed, a forced symbol forces and `-` keeps (R32). -/
theorem FlagSym.apply_obeys (sym : FlagSym) (computed : Option Bool) (old : Bool) :
    obeys sym old (FlagSym.apply sym computed old) := by
  cases sym <;> simp [obeys, FlagSym.apply]

/-- Settles O58: the outcome of such a form is NoResult. -/
theorem noResultTakesForcedFlags : Obligations.NoResultTakesForcedFlags := by
  intro i name e s t hv hm h
  obtain ⟨o, family, flags⟩ := flags_of_exec hv hm h
  rw [flags, Computed.eq_noResult family]
  simp [applyFlags, Computed.noResult, FlagSym.apply_none]

/-- Settles O59: every flag is its symbol's, applied to some outcome. -/
theorem codeForcesAndKeepsFlags : Obligations.CodeForcesAndKeepsFlags := by
  intro i name e s t hv admitted h
  obtain ⟨m, hm⟩ := Option.isSome_iff_exists.mp admitted
  obtain ⟨o, -, flags⟩ := flags_of_exec hv hm h
  rw [flags]
  exact ⟨FlagSym.apply_obeys _ _ _, FlagSym.apply_obeys _ _ _, FlagSym.apply_obeys _ _ _, FlagSym.apply_obeys _ _ _⟩

end Sys2Proof.Machine
end

section
/-! ## Words in memory and on the stack (spec 20_memory R49, R57 to R59) -/
namespace Sys2Proof.Machine

/-! ### Words in memory (R49) -/

/-- A byte read after a word written (R49). -/
@[simp] theorem State.readByte_writeWord (s : State) (a v b : Word) :
    (s.writeWord a v).readByte b = if b = a + 1 then hiByte v else if b = a then loByte v else s.readByte b := by
  simp [State.writeWord]

/-- The high byte, written after the low byte, does not overwrite it: `a` and `a + 1` differ, wrapped or not. -/
theorem State.readByte_writeWord_low (s : State) (a v : Word) : (s.writeWord a v).readByte a = loByte v := by
  have distinct : a ≠ a + 1 := by bv_omega
  rw [State.readByte_writeWord, if_neg distinct, if_pos rfl]

theorem State.readByte_writeWord_high (s : State) (a v : Word) : (s.writeWord a v).readByte (a + 1) = hiByte v := by
  rw [State.readByte_writeWord, if_pos rfl]

@[simp] theorem State.readWord_writeWord (s : State) (a v : Word) : (s.writeWord a v).readWord a = v := by
  rw [State.readWord, State.readByte_writeWord_low, State.readByte_writeWord_high, ofBytes_hi_lo]

/-- Settles O57: the bytes at the two addresses are the halves of the word, as numbers `toNat_loByte` and `toNat_hiByte`. -/
theorem wordsAreLittleEndian : Obligations.WordsAreLittleEndian := by
  intro s a v
  refine ⟨?low, ?high, s.readWord_writeWord a v⟩
  case low => rw [State.readByte_writeWord_low, toNat_loByte]
  case high => rw [State.readByte_writeWord_high, toNat_hiByte]

/-! ### A push, then a pop (R57, R58) -/

theorem State.readByte_push16_low (s : State) (v : Word) :
    (s.push16 v).readByte (s.reg16 .SP - 1 - 1) = loByte v := by
  rw [State.readByte_push16, if_pos rfl]

/-- The low byte, written after the high byte, does not overwrite it: `SP - 1` and `SP - 2` differ, wrapped or not. -/
theorem State.readByte_push16_high (s : State) (v : Word) : (s.push16 v).readByte (s.reg16 .SP - 1) = hiByte v := by
  have distinct : s.reg16 .SP - 1 ≠ s.reg16 .SP - 1 - 1 := by bv_omega
  rw [State.readByte_push16, if_neg distinct, if_pos rfl]

@[simp] theorem State.top16_push16 (s : State) (v : Word) : (s.push16 v).top16 = v := by
  have above : s.reg16 .SP - 1 - 1 + 1 = s.reg16 .SP - 1 := BitVec.sub_add_cancel _ _
  rw [State.top16, State.readWord, State.sp_push16, above, State.readByte_push16_high, State.readByte_push16_low,
    ofBytes_hi_lo]

theorem State.sp_pop16_push16 (s : State) (v : Word) : (s.push16 v).pop16.reg16 .SP = s.reg16 .SP := by
  rw [State.sp_pop16, State.sp_push16]
  bv_omega

/-- Settles O24: the value by `State.top16_push16`, SP by `State.sp_pop16_push16`; neither operation writes an 8-bit register. -/
theorem pushThenPopRestores : Obligations.PushThenPopRestores := by
  intro s v
  refine ⟨s.top16_push16 v, s.sp_pop16_push16 v, fun r => ?_⟩
  rw [State.reg_pop16, State.reg_push16]

end Sys2Proof.Machine
end

section
/-! ## Encoding and decoding (spec 30_encoding R65 to R79) -/
namespace Sys2Proof

/-! ### A builder reads the operand bytes of what it makes (R68, R70) -/

/-- How many bytes a builder reads. -/
def Builder.width : Builder → Nat
  | .plain _ => 0
  | .imm8 _ => 1
  | .imm16 _ => 2

/-- The builder can make `i`, and whatever it makes has as operand bytes the ones it was read from. -/
inductive Builder.Builds : Builder → Instr → Prop where
  | plain {i : Instr} (imm : i.imm = []) : Builds (.plain i) i
  | imm8 {f : Byte → Instr} {n : Byte} (imm : ∀ n, (f n).imm = [n]) : Builds (.imm8 f) (f n)
  | imm16 {f : Word → Instr} {nn : Word} (imm : ∀ nn, (f nn).imm = imm16Bytes nn) : Builds (.imm16 f) (f nn)

/-- A builder that can make an instruction makes it from its operand bytes. -/
theorem Builder.Builds.build_imm {b : Builder} {i : Instr} (h : b.Builds i) (tail : List Byte) :
    b.build (i.imm ++ tail) = some i := by
  cases h with
  | plain _ => rfl
  | imm8 imm => rw [imm]; rfl
  | @imm16 f nn imm => simp only [imm, imm16Bytes, List.cons_append, Builder.build, Machine.ofBytes_hi_lo]

/-- What a builder makes has the bytes read as its operand bytes: none is dropped. -/
theorem Builder.Builds.imm_eq_take {b : Builder} {i j : Instr} (h : b.Builds i) {rest : List Byte} (built : b.build rest = some j) :
    j.imm = rest.take b.width := by
  cases h with
  | plain imm => cases built; exact imm
  | imm8 imm =>
    obtain _ | ⟨n, rest⟩ := rest <;> cases built
    exact imm n
  | imm16 imm =>
    obtain _ | ⟨lo, _ | ⟨hi, rest⟩⟩ := rest <;> cases built
    rw [imm, imm16Bytes, Machine.loByte_ofBytes, Machine.hiByte_ofBytes]
    rfl

/-- Every named instruction is made by the builder of its name (R77). -/
theorem builds_of_view {i : Instr} {name : FormName} (hv : i.view = .named name) :
    ∃ b, name.builder = some b ∧ b.Builds i := by
  cases i <;> cases hv
  case ld_B_d8 | ld_C_d8 | stop_0 | ld_D_d8 | jr_r8 | ld_E_d8 | jr_NZ_r8 | ld_H_d8 | jr_Z_r8 | ld_L_d8 | jr_NC_r8 | ld_indHL_d8 |
      jr_C_r8 | ld_A_d8 | add_A_d8 | adc_A_d8 | sub_d8 | sbc_A_d8 | ldh_indA8_A | and_d8 | add_SP_r8 | xor_d8 | ldh_A_indA8 |
      or_d8 | ld_HL_SPr8 | cp_d8 =>
    exact ⟨_, rfl, .imm8 fun _ => rfl⟩
  case ld_BC_d16 | ld_indA16_SP | ld_DE_d16 | ld_HL_d16 | ld_SP_d16 | jp_NZ_a16 | jp_a16 | call_NZ_a16 | jp_Z_a16 | call_Z_a16 |
      call_a16 | jp_NC_a16 | call_NC_a16 | jp_C_a16 | call_C_a16 | ld_indA16_A | ld_A_indA16 =>
    exact ⟨_, rfl, .imm16 fun _ => rfl⟩
  case rlc_r x | rrc_r x | rr_r x | sla_r x | sra_r x | swap_r x | srl_r x =>
    cases x with
    | reg r => cases r <;> exact ⟨_, rfl, .plain rfl⟩
    | indHL => exact ⟨_, rfl, .plain rfl⟩
  case res_b_r b x | set_b_r b x =>
    cases x with
    | reg r => cases b <;> cases r <;> exact ⟨_, rfl, .plain rfl⟩
    | indHL => cases b <;> exact ⟨_, rfl, .plain rfl⟩
  all_goals exact ⟨_, rfl, .plain rfl⟩

/-- Every instruction's name and operand bytes select it, whatever follows (`Laws.Selects`, for all constructors at once). -/
theorem selects (i : Instr) : Laws.Selects.Statement i := by
  intro name e tail hv
  obtain ⟨b, found, builds⟩ := builds_of_view hv
  simp only [dispatch, found, builds.build_imm]

/-- What dispatch reads is a builder's work: the entry of the descriptor, and operand bytes read from `rest`. -/
theorem dispatch_eq_instr {d : Descriptor} {rest : List Byte} {i : Instr} {e : Entry} (h : dispatch d rest = .instr i e) :
    e = d.entry ∧ i.view = .named d.name ∧ ∃ b, d.name.builder = some b ∧ i.imm = rest.take b.width := by
  unfold dispatch at h
  split at h
  next => cases h
  next b found =>
    split at h <;> cases h
    next built =>
    have hv := FormName.builder_makes found _ _ built
    obtain ⟨b', found', builds⟩ := builds_of_view hv
    cases found.symm.trans found'
    exact ⟨rfl, hv, b, found, builds.imm_eq_take built⟩

/-! ### The entry that opcode bytes select (R73 to R75) -/

/-- The table entry of a sequence of opcode bytes: a primary key, or the byte of R73 and a secondary key (R74). -/
def Params.entryAt (p : Params) : List Byte → Option Descriptor
  | [k] => if k = p.prefixByte then none else sectionEntry p.table.primary k
  | [b, k] => if b = p.prefixByte then sectionEntry p.table.secondary k else none
  | _ => none

theorem Params.entryAt_primary {p : Params} {k : Byte} (hk : k ≠ p.prefixByte) :
    p.entryAt [k] = sectionEntry p.table.primary k := if_neg hk

theorem Params.entryAt_secondary (p : Params) (k : Byte) : p.entryAt [p.prefixByte, k] = sectionEntry p.table.secondary k :=
  if_pos rfl

/-- Opcode bytes with an entry are a primary key that is not the byte of R73, or that byte and a secondary key. -/
theorem Params.entryAt_cases {p : Params} {op : List Byte} {d : Descriptor} (h : p.entryAt op = some d) :
    (∃ k, k ≠ p.prefixByte ∧ op = [k] ∧ sectionEntry p.table.primary k = some d) ∨
      ∃ k, op = [p.prefixByte, k] ∧ sectionEntry p.table.secondary k = some d := by
  unfold Params.entryAt at h
  split at h
  next k =>
    split at h
    next => cases h
    next hk => exact .inl ⟨k, hk, rfl, h⟩
  next b k =>
    split at h
    next hb => exact .inr ⟨k, by rw [hb], h⟩
    next => cases h
  next => cases h

/-- Decoding dispatches the entry of the opcode bytes on what follows them. -/
theorem decode_of_entryAt {p : Params} {op : List Byte} {d : Descriptor} (h : p.entryAt op = some d) (rest : List Byte) :
    decode p (op ++ rest) = dispatch d rest := by
  obtain ⟨k, hk, rfl, hd⟩ | ⟨k, rfl, hd⟩ := Params.entryAt_cases h
  · simp only [List.cons_append, List.nil_append, decode, if_neg hk, hd]
  · simp only [List.cons_append, List.nil_append, decode, if_true, hd]

/-- A byte that is an absent primary key decodes to nothing else (R74). -/
theorem decode_of_absent_primary {p : Params} {k : Byte} (hk : k ≠ p.prefixByte) (hd : sectionEntry p.table.primary k = none)
    (rest : List Byte) : decode p (k :: rest) = .undecodable (.absent [k]) := by
  simp only [decode, if_neg hk, hd]

/-- The same for a secondary key after the byte of R73. -/
theorem decode_of_absent_secondary {p : Params} {k : Byte} (hd : sectionEntry p.table.secondary k = none) (rest : List Byte) :
    decode p (p.prefixByte :: k :: rest) = .undecodable (.absent [p.prefixByte, k]) := by
  simp only [decode, if_true, hd]

/-- The byte of R73 with no byte after it (R75). -/
theorem decode_of_lone_prefixByte (p : Params) : decode p [p.prefixByte] = .undecodable .prefix_CB := by
  simp only [decode, if_true]

/-- What is decoded as an instruction begins with opcode bytes that have an entry. -/
theorem entryAt_of_decode {p : Params} {bytes : List Byte} {i : Instr} {e : Entry} (h : decode p bytes = .instr i e) :
    ∃ op rest d, bytes = op ++ rest ∧ p.entryAt op = some d ∧ dispatch d rest = .instr i e := by
  unfold decode at h
  split at h
  next => cases h
  next b0 rest =>
    split at h
    next hb =>
      split at h
      next => cases h
      next b1 rest =>
        split at h
        next => cases h
        next d hd => exact ⟨[b0, b1], rest, d, rfl, by rw [hb, Params.entryAt_secondary, hd], h⟩
    next hb =>
      split at h
      next => cases h
      next d hd => exact ⟨[b0], rest, d, rfl, by rw [Params.entryAt_primary hb, hd], h⟩

/-! ### The opcode bytes of a name (R68) -/

/-- The key found has an entry of that name and is not the one left out. -/
theorem keyOf_eq_some {sec : List (Option Descriptor)} {skip : Option Byte} {name : FormName} {k : Byte}
    (h : keyOf sec skip name = some k) : some k ≠ skip ∧ ∃ d, sectionEntry sec k = some d ∧ d.name = name := by
  have test := List.find?_some h
  simpa using test

/-- An entry's name has a key. -/
theorem keyOf_isSome {sec : List (Option Descriptor)} {skip : Option Byte} {k : Byte} {d : Descriptor} (hk : some k ≠ skip)
    (hd : sectionEntry sec k = some d) : (keyOf sec skip d.name).isSome = true := by
  refine List.find?_isSome.mpr ⟨k, List.mem_map.mpr ⟨k.toNat, List.mem_range.mpr k.isLt, by simp⟩, ?_⟩
  simp [hk, hd]

/-- The opcode bytes of a name have an entry of that name. -/
theorem entryAt_opcodeOf {p : Params} {name : FormName} {op : List Byte} (h : opcodeOf p name = some op) :
    ∃ d, p.entryAt op = some d ∧ d.name = name := by
  unfold opcodeOf at h
  split at h
  next k found =>
    cases h
    obtain ⟨hk, d, hd, hn⟩ := keyOf_eq_some found
    exact ⟨d, by rw [Params.entryAt_primary (by simpa using hk), hd], hn⟩
  next =>
    obtain ⟨k, found, rfl⟩ := Option.map_eq_some_iff.mp h
    obtain ⟨-, d, hd, hn⟩ := keyOf_eq_some found
    exact ⟨d, by rw [Params.entryAt_secondary, hd], hn⟩

/-- The name of an entry has opcode bytes. -/
theorem opcodeOf_isSome {p : Params} {op : List Byte} {d : Descriptor} (h : p.entryAt op = some d) :
    (opcodeOf p d.name).isSome = true := by
  unfold opcodeOf
  split
  next => rfl
  next missing =>
    obtain ⟨k, hk, -, hd⟩ | ⟨k, -, hd⟩ := Params.entryAt_cases h
    · have found := keyOf_isSome (skip := some p.prefixByte) (by simpa using hk) hd
      rw [missing] at found
      cases found
    · simpa using keyOf_isSome (skip := none) nofun hd

/-! ### Decoding what an instruction encodes to -/

theorem Instr.eq_absent_of_view {i : Instr} {bytes : List Byte} (h : i.view = .absent bytes) : i = .absent bytes := by
  cases i <;> cases h
  rfl

theorem Instr.eq_prefix_CB_of_view {i : Instr} (h : i.view = .truncated) : i = .prefix_CB := by
  cases i <;> cases h
  rfl

/-- The encoding of a named instruction is the opcode bytes of its name, then its operand bytes. -/
theorem encode_of_named {p : Params} {i : Instr} {name : FormName} (hv : i.view = .named name) :
    encode p i = (opcodeOf p name).map (· ++ i.imm) := by
  simp only [encode, hv]

/-- A named instruction is decoded from its encoding: the opcode bytes find an entry of its name, the operand bytes are read back. -/
theorem decode_encode_named {p : Params} {i : Instr} {name : FormName} {bytes : List Byte} (hv : i.view = .named name)
    (h : encode p i = some bytes) (tail : List Byte) : ∃ e, decode p (bytes ++ tail) = .instr i e := by
  rw [encode_of_named hv] at h
  obtain ⟨op, found, rfl⟩ := Option.map_eq_some_iff.mp h
  obtain ⟨d, hd, rfl⟩ := entryAt_opcodeOf found
  exact ⟨d.entry, by rw [List.append_assoc, decode_of_entryAt hd, selects i d.name d.entry tail hv]⟩

theorem encode_absent_primary (p : Params) (b0 : Byte) : encode p (.absent [b0]) =
    if b0 ≠ p.prefixByte ∧ sectionEntry p.table.primary b0 = none then some [b0] else none := rfl

theorem encode_absent_secondary (p : Params) (b0 b1 : Byte) : encode p (.absent [b0, b1]) =
    if b0 = p.prefixByte ∧ sectionEntry p.table.secondary b1 = none then some [b0, b1] else none := rfl

/-- An absent key is decoded from its own bytes. -/
theorem decode_encode_absent {p : Params} {keys bytes : List Byte} (h : encode p (.absent keys) = some bytes) (tail : List Byte) :
    decode p (bytes ++ tail) = .undecodable (.absent keys) := by
  obtain _ | ⟨b0, _ | ⟨b1, _ | ⟨b2, rest⟩⟩⟩ := keys
  · cases h
  · rw [encode_absent_primary, Option.ite_none_right_eq_some] at h
    obtain ⟨⟨hb, hd⟩, ⟨⟩⟩ := h
    exact decode_of_absent_primary hb hd tail
  · rw [encode_absent_secondary, Option.ite_none_right_eq_some] at h
    obtain ⟨⟨rfl, hd⟩, ⟨⟩⟩ := h
    exact decode_of_absent_secondary hd tail
  · cases h

/-- The bytes an instruction encodes to are decoded to it; a cut form has nothing after it (R75). -/
theorem decode_encode {p : Params} {i : Instr} {bytes tail : List Byte} (h : encode p i = some bytes)
    (cut : i.view = .truncated → tail = []) : (decode p (bytes ++ tail)).instr? = some i := by
  cases hv : i.view with
  | named name =>
    obtain ⟨e, decoded⟩ := decode_encode_named hv h tail
    rw [decoded]
    rfl
  | absent keys =>
    cases Instr.eq_absent_of_view hv
    rw [decode_encode_absent h]
    rfl
  | truncated =>
    cases Instr.eq_prefix_CB_of_view hv
    cases h
    rw [cut hv, List.append_nil, decode_of_lone_prefixByte]
    rfl
open Claims (field)

/-! ### The reference table: each name has one key (R67, R69) -/

/-- The code of an operand token in its opcode field (R69); the auto-modify forms take the codes that `rr` leaves free there. -/
def Token.fieldCode : Token → Byte
  | .reg8 r => r.code
  | .reg16 r => r.code
  | .AF => 3
  | .ind .BC => 0
  | .ind .DE => 1
  | .ind .HL => 6
  | .indHLinc => 2
  | .indHLdec => 3
  | .cond c => c.code
  | .bit b => b.code
  | .rst k => k.code
  | _ => 0

/-- The opcode byte of an LD form. -/
def ldOpcode : Token → Token → Byte
  | .reg16 .SP, .reg16 .HL => 0xF9
  | .reg16 .HL, .spPlusR8 => 0xF8
  | .indA16, .reg16 .SP => 0x08
  | .indA16, .reg8 .A => 0xEA
  | .reg8 .A, .indA16 => 0xFA
  | .indC, .reg8 .A => 0xE2
  | .reg8 .A, .indC => 0xF2
  | x, .d16 => 0x01 ||| field x.fieldCode 4
  | x, .d8 => 0x06 ||| field x.fieldCode 3
  | x, y =>
    if x.isLoc8 && y.isLoc8 then 0x40 ||| field x.fieldCode 3 ||| y.fieldCode
    else if y = .reg8 .A then 0x02 ||| field x.fieldCode 4
    else 0x0A ||| field y.fieldCode 4

/-- The opcode bytes of a name of the reference table, by the operand fields of R69. -/
def FormName.opcode (n : FormName) : List Byte :=
  match n.mnemonic, n.operands with
  | .NOP, _ => [0x00]
  | .STOP, _ => [0x10]
  | .RLCA, _ => [0x07]
  | .RRCA, _ => [0x0F]
  | .RLA, _ => [0x17]
  | .RRA, _ => [0x1F]
  | .DAA, _ => [0x27]
  | .CPL, _ => [0x2F]
  | .SCF, _ => [0x37]
  | .CCF, _ => [0x3F]
  | .HALT, _ => [0x76]
  | .PREFIX, _ => [0xCB]
  | .RETI, _ => [0xD9]
  | .DI, _ => [0xF3]
  | .EI, _ => [0xFB]
  | .INC, [.reg16 r] => [0x03 ||| field r.code 4]
  | .INC, [x] => [0x04 ||| field x.fieldCode 3]
  | .DEC, [.reg16 r] => [0x0B ||| field r.code 4]
  | .DEC, [x] => [0x05 ||| field x.fieldCode 3]
  | .LD, [x, y] => [ldOpcode x y]
  | .LDH, [.indA8, _] => [0xE0]
  | .LDH, _ => [0xF0]
  | .ADD, [.reg16 .HL, x] => [0x09 ||| field x.fieldCode 4]
  | .ADD, [.reg16 .SP, _] => [0xE8]
  | .ADD, [_, .d8] => [0xC6]
  | .ADD, [_, x] => [0x80 ||| x.fieldCode]
  | .ADC, [_, .d8] => [0xCE]
  | .ADC, [_, x] => [0x88 ||| x.fieldCode]
  | .SUB, [.d8] => [0xD6]
  | .SUB, [x] => [0x90 ||| x.fieldCode]
  | .SBC, [_, .d8] => [0xDE]
  | .SBC, [_, x] => [0x98 ||| x.fieldCode]
  | .AND, [.d8] => [0xE6]
  | .AND, [x] => [0xA0 ||| x.fieldCode]
  | .XOR, [.d8] => [0xEE]
  | .XOR, [x] => [0xA8 ||| x.fieldCode]
  | .OR, [.d8] => [0xF6]
  | .OR, [x] => [0xB0 ||| x.fieldCode]
  | .CP, [.d8] => [0xFE]
  | .CP, [x] => [0xB8 ||| x.fieldCode]
  | .JR, [.r8] => [0x18]
  | .JR, [c, _] => [0x20 ||| field c.fieldCode 3]
  | .JP, [.a16] => [0xC3]
  | .JP, [.ind _] => [0xE9]
  | .JP, [c, _] => [0xC2 ||| field c.fieldCode 3]
  | .CALL, [.a16] => [0xCD]
  | .CALL, [c, _] => [0xC4 ||| field c.fieldCode 3]
  | .RET, [] => [0xC9]
  | .RET, [c] => [0xC0 ||| field c.fieldCode 3]
  | .POP, [x] => [0xC1 ||| field x.fieldCode 4]
  | .PUSH, [x] => [0xC5 ||| field x.fieldCode 4]
  | .RST, [k] => [0xC7 ||| field k.fieldCode 3]
  | .RLC, [x] => [0xCB, x.fieldCode]
  | .RRC, [x] => [0xCB, 0x08 ||| x.fieldCode]
  | .RL, [x] => [0xCB, 0x10 ||| x.fieldCode]
  | .RR, [x] => [0xCB, 0x18 ||| x.fieldCode]
  | .SLA, [x] => [0xCB, 0x20 ||| x.fieldCode]
  | .SRA, [x] => [0xCB, 0x28 ||| x.fieldCode]
  | .SWAP, [x] => [0xCB, 0x30 ||| x.fieldCode]
  | .SRL, [x] => [0xCB, 0x38 ||| x.fieldCode]
  | .BIT, [b, x] => [0xCB, 0x40 ||| field b.fieldCode 3 ||| x.fieldCode]
  | .RES, [b, x] => [0xCB, 0x80 ||| field b.fieldCode 3 ||| x.fieldCode]
  | .SET, [b, x] => [0xCB, 0xC0 ||| field b.fieldCode 3 ||| x.fieldCode]
  | _, _ => []

/-- A descriptor stands at the opcode bytes of its name, and its length counts them and the operand bytes (R65, R68). -/
def Descriptor.standsAt (d : Descriptor) (op : List Byte) : Bool :=
  d.name.opcode = op && d.name.builder.all fun b => d.entry.len = op.length + b.width

theorem Descriptor.standsAt_iff {d : Descriptor} {op : List Byte} : d.standsAt op = true ↔
    d.name.opcode = op ∧ ∀ b, d.name.builder = some b → d.entry.len = op.length + b.width := by
  simp [Descriptor.standsAt, Option.all_eq_true]

/-- A check of every entry of a section with its key. -/
def checkSection (check : Byte → Descriptor → Bool) (sec : List (Option Descriptor)) : Bool :=
  sec.zipIdx.all fun x => x.1.all (check (BitVec.ofNat 8 x.2))

theorem check_of_checkSection {check : Byte → Descriptor → Bool} {sec : List (Option Descriptor)}
    (checked : checkSection check sec = true) {k : Byte} {d : Descriptor} (hd : sectionEntry sec k = some d) : check k d = true := by
  have lookup : sec[k.toNat]? = some (some d) := by
    rw [sectionEntry, List.getD_eq_getElem?_getD] at hd
    cases hk : sec[k.toNat]? with
    | none => simp [hk] at hd
    | some entry => simpa [hk] using hd
  simpa using List.all_eq_true.mp checked (some d, k.toNat) (List.mem_zipIdx_iff_getElem?.mpr lookup)

theorem primary_standsAt : checkSection (fun k d => d.standsAt [k]) Config.table.primary = true := by decide +kernel

theorem secondary_standsAt : checkSection (fun k d => d.standsAt [0xCB, k]) Config.table.secondary = true := by decide +kernel

/-- Every entry of the reference table stands at the opcode bytes of its name, and so at no others. -/
theorem entryAt_reference {op : List Byte} {d : Descriptor} (h : Config.reference.entryAt op = some d) :
    d.name.opcode = op ∧ ∀ b, d.name.builder = some b → d.entry.len = op.length + b.width := by
  rw [← Descriptor.standsAt_iff]
  obtain ⟨k, -, rfl, hd⟩ | ⟨k, rfl, hd⟩ := Params.entryAt_cases h
  · exact check_of_checkSection primary_standsAt hd
  · exact check_of_checkSection secondary_standsAt hd

/-- The search for a name of the reference table ends at the very entry it was taken from. -/
theorem opcodeOf_reference {op : List Byte} {d : Descriptor} (h : Config.reference.entryAt op = some d) :
    opcodeOf Config.reference d.name = some op := by
  obtain ⟨op', found⟩ := Option.isSome_iff_exists.mp (opcodeOf_isSome h)
  obtain ⟨d', hd', same⟩ := entryAt_opcodeOf found
  have unique : op' = op := by rw [← (entryAt_reference hd').1, same, (entryAt_reference h).1]
  rw [found, unique]

theorem mem_mnemonics_of_form {m : Mnemonic} {f : List Token × Builder} (h : f ∈ formsOf m) : m ∈ mnemonics := by
  cases m
  case other => cases h
  all_goals decide

/-- Every form of a mnemonic has an entry, at its opcode bytes. -/
theorem entryAt_opcode_of_form : ∀ m ∈ mnemonics, ∀ f ∈ formsOf m,
    (Config.reference.entryAt (FormName.opcode ⟨m, f.1⟩)).map Descriptor.name = some ⟨m, f.1⟩ := by decide +kernel

/-- A name that some constructor stands for has an entry in the reference table. -/
theorem entryAt_of_builder {name : FormName} {b : Builder} (h : name.builder = some b) :
    ∃ d, Config.reference.entryAt name.opcode = some d ∧ d.name = name := by
  obtain ⟨f, found, -⟩ := Option.map_eq_some_iff.mp h
  have form : f ∈ formsOf name.mnemonic := List.mem_of_find?_eq_some found
  have operands : f.1 = name.operands := by simpa using List.find?_some found
  have entry := entryAt_opcode_of_form _ (mem_mnemonics_of_form form) f form
  rw [operands] at entry
  exact Option.map_eq_some_iff.mp entry

/-- Every named instruction has an encoding under the reference table. -/
theorem encode_reference_isSome {i : Instr} {name : FormName} (hv : i.view = .named name) :
    (encode Config.reference i).isSome = true := by
  obtain ⟨b, hb, -⟩ := builds_of_view hv
  obtain ⟨d, hd, rfl⟩ := entryAt_of_builder hb
  rw [encode_of_named hv, opcodeOf_reference hd]
  rfl

/-- The holes are the absent primary keys (R79). -/
theorem primary_absent_iff : ∀ k, sectionEntry Config.table.primary k = none ↔ k ∈ Claims.holes := by decide +kernel

/-- No secondary key is absent (R79). -/
theorem secondary_present : ∀ k, sectionEntry Config.table.secondary k ≠ none := by decide +kernel

theorem ne_prefixByte_of_hole {k : Byte} (hk : k ∈ Claims.holes) : k ≠ Config.reference.prefixByte := by
  have present : Config.reference.prefixByte ∉ Claims.holes := by decide
  exact fun h => present (h ▸ hk)

/-- Settles O28: an encoding is read back by `decode_encode`, under any table; that the named instructions have one under the
reference table is `encode_reference_isSome`, and a hole is an absent key, so it encodes to itself. -/
theorem decodeOfEncode : Obligations.DecodeOfEncode := by
  refine ⟨fun p i bytes tail => decode_encode, fun i name => encode_reference_isSome, rfl, fun b hb => ?_⟩
  rw [encode_absent_primary, if_pos ⟨ne_prefixByte_of_hole hb, (primary_absent_iff b).mpr hb⟩]

/-- Under the reference table what is decoded encodes to the bytes it was decoded from, as many as its length. -/
theorem encode_decode {bytes : List Byte} {i : Instr} {e : Entry} (h : decode Config.reference bytes = .instr i e) :
    encode Config.reference i = some (bytes.take e.len) := by
  obtain ⟨op, rest, d, rfl, hd, dispatched⟩ := entryAt_of_decode h
  obtain ⟨rfl, hv, b, hb, imm⟩ := dispatch_eq_instr dispatched
  have len : d.entry.len = op.length + b.width := (entryAt_reference hd).2 b hb
  rw [encode_of_named hv, opcodeOf_reference hd, imm, len, List.take_length_add_append]
  rfl

/-- Settles O29: `encode_decode` for four bytes. -/
theorem encodeOfDecode : Obligations.EncodeOfDecode :=
  fun _ _ _ _ _ _ => encode_decode

end Sys2Proof
end

section
/-! ## What a step decodes, and the configuration it keeps (spec 30_encoding R65, R78, R79, 10_state R38) -/
namespace Sys2Proof.Machine
open Sys2Proof.Claims

/-! ### The bytes at PC (R51, R70, R75) -/

/-- The fetch is the bytes at PC of R51: the addresses modulo 65536 are sums of words. -/
theorem bytesAtPc_eq_fetch (s : State) : bytesAtPc s = s.fetch := by
  have address (k : Nat) : w16 (s.pc.toNat + k) = s.pc + BitVec.ofNat 16 k := by
    rw [w16, BitVec.ofNat_add, BitVec.ofNat_toNat, BitVec.setWidth_eq]
  simp only [bytesAtPc, State.fetch, List.map_cons, List.map_nil, address]
  rfl

/-- A fetch begins with the byte at PC. -/
theorem State.fetch_eq_cons (s : State) : ∃ rest, s.fetch = s.readByte s.pc :: rest := by
  unfold State.fetch
  split <;> exact ⟨_, rfl⟩

/-! ### One instruction step (R78) -/

theorem State.boundary_eq_ite (s : State) : s.boundary = if s.fault = none then s.postInstructionCheck else s := by
  unfold State.boundary
  split
  next clear => rw [if_pos clear]
  next faulted => rw [if_neg (by simp [faulted])]

/-- After a fault there is no interrupt check (R168). -/
@[simp] theorem State.boundary_raise (s : State) (f : Fault) : (s.raise f).boundary = s.raise f := rfl

theorem coreStep_of_instr {s t : State} {i : Instr} {e : Entry} (decoded : decode s.params s.fetch = .instr i e)
    (suits : i.suits e = true) (ran : exec i (s.hold e) = .next t) : coreStep s = .next t.boundary := by
  simp only [coreStep, decoded, suits, if_true, ran, afterExec]

theorem coreStep_of_undecodable {s t : State} {i : Instr} (decoded : decode s.params s.fetch = .undecodable i)
    (ran : exec i s = .next t) : coreStep s = .next t.boundary := by
  simp only [coreStep, decoded, ran, afterExec]

/-- At a free boundary the gate passes, and the step is one instruction step (R164, R179). -/
theorem State.Free.step_eq {s : State} (free : s.Free) : step s = coreStep s := by
  have passes : s.gate = s := by simp [State.gate, free.breakpoint, free.stepping]
  simp [step, loopStep, free.fault, free.ended, free.suspended, atBoundary, free.host, gateAndStep, passes]

/-- Settles O35: a free step is `coreStep`, which decodes the bytes at PC and runs `exec`; the check after it is the boundary's. -/
theorem stepRunsDecodedInstruction : Obligations.StepRunsDecodedInstruction := by
  intro s free
  rw [bytesAtPc_eq_fetch, free.step_eq]
  refine ⟨fun i e t decoded suits ran => ?_, fun i t decoded ran => ?_⟩ <;> rw [← State.boundary_eq_ite]
  · exact coreStep_of_instr decoded suits ran
  · exact coreStep_of_undecodable decoded ran

/-- A byte that is an absent primary key makes the step record it and change nothing (R74, R155). -/
theorem coreStep_of_absent_primary {s : State} (hb : s.readByte s.pc ≠ s.params.prefixByte)
    (absent : sectionEntry s.params.table.primary (s.readByte s.pc) = none) :
    coreStep s = .next (s.raise (.unknownOpcode s.pc [s.readByte s.pc])) := by
  obtain ⟨rest, fetched⟩ := s.fetch_eq_cons
  exact coreStep_of_undecodable (by rw [fetched, decode_of_absent_primary hb absent]) rfl

/-- Settles O31: the holes are the absent primary keys of the reference table (`primary_absent_iff`), and such a byte faults under
any table. -/
theorem holesFault : Obligations.HolesFault := by
  refine ⟨fun s params hole => ?_, primary_absent_iff, secondary_present⟩
  refine coreStep_of_absent_primary ?_ ?_ <;> rw [params]
  · exact ne_prefixByte_of_hole hole
  · exact (primary_absent_iff _).mpr hole

/-- Settles O30, by evaluating the decoder on the words. -/
theorem sampleWordsDecode : Obligations.SampleWordsDecode := by
  unfold Obligations.SampleWordsDecode
  decide +kernel

/-! ### The configuration (R38, R65, R172, R191) -/

/-- The enable bit and the handler address of a source. -/
def IrqSource.config (src : IrqSource) : Bool × Word := (src.enable, src.vec)

/-- The same parameters, enable bits and handler addresses. -/
structure SameConfig (s t : State) : Prop where
  params : t.params = s.params
  irq : t.irq.map IrqSource.config = s.irq.map IrqSource.config

theorem SameConfig.trans {s t u : State} (h : SameConfig s t) (k : SameConfig t u) : SameConfig s u :=
  ⟨k.params.trans h.params, k.irq.trans h.irq⟩

theorem SameArch.sameConfig {s t : State} (h : SameArch s t) : SameConfig s t := ⟨h.params, by rw [h.irq]⟩

/-- A pending bit is no configuration. -/
@[simp] theorem map_config_setPending (i : Nat) (v : Bool) (l : List IrqSource) :
    (setPending i v l).map IrqSource.config = l.map IrqSource.config := by
  refine List.ext_getElem? fun j => ?_
  rw [List.getElem?_map, List.getElem?_map, setPending_getElem?]
  split
  · cases l[j]? <;> rfl
  · rfl

theorem Effect.sameConfig {s t : State} (h : Effect s t) : SameConfig s t := by
  cases h with
  | faulted f => exact ⟨rfl, rfl⟩
  | ran control _ _ => exact ⟨control.params, by rw [control.irq]⟩

/-- Vectoring clears a pending bit and IME, and enters the handler (R169). -/
theorem SameConfig.boundary (s : State) : SameConfig s s.boundary := by
  obtain h | ⟨i, -, -, -, h⟩ := boundary_cases s <;> rw [h]
  · exact ⟨rfl, rfl⟩
  · exact ⟨rfl, map_config_setPending i false s.irq⟩

theorem SameConfig.coreStep {s t : State} (h : coreStep s = .next t) : SameConfig s t := by
  obtain ⟨e, u, effect, rfl⟩ := effect_of_coreStep h
  exact SameConfig.trans ⟨effect.sameConfig.params, effect.sameConfig.irq⟩ (.boundary u)

/-- No move of the run loop writes configuration: a request sets a pending bit, the gate and the commands change debug state alone. -/
theorem SameConfig.step {s t : State} (h : step s = .next t) : SameConfig s t := by
  obtain ⟨-, -, move⟩ := loopMove_of_step h
  cases move with
  | request _ _ => exact ⟨rfl, map_config_setPending _ _ _⟩
  | stop _ => exact ⟨rfl, rfl⟩
  | wait _ _ => exact (SameArch.withHost s _).sameConfig
  | prompt _ _ _ => exact ((SameArch.withHost s _).trans (.command _ _)).sameConfig
  | resumed _ _ _ core => exact ((SameArch.withHost s _).trans (.command _ _)).sameConfig.trans (.coreStep core)
  | paused _ _ _ => exact ((SameArch.withHost s _).trans (gate_same _).1).sameConfig
  | ran _ _ _ core => exact ((SameArch.withHost s _).trans (gate_same _).1).sameConfig.trans (.coreStep core)

/-- Settles O42: every move of the run loop keeps the configuration (`SameConfig.step`). -/
theorem stepKeepsConfiguration : Obligations.StepKeepsConfiguration :=
  fun _ _ h => ⟨(SameConfig.step h).params, (SameConfig.step h).irq⟩

end Sys2Proof.Machine
end

section
/-! ## Encodings of single forms, and what a form that writes one location leaves (spec 30_encoding R65, 40_arith R84, R85) -/
namespace Sys2Proof.Machine
open Sys2Proof.Claims

/-! ### An encoding is an entry of the reference table (R65, R68) -/

/-- A form without operand bytes is encoded by opcode bytes whose entry has its name. -/
theorem encodes_plain {op : List Byte} {i : Instr} {name : FormName} {e : Entry} (hv : i.view = .named name)
    (imm : i.imm = []) (found : Config.reference.entryAt op = some ⟨name, e⟩) : Encodes op i e := by
  intro tail
  have selected := selects i name e tail hv
  rwa [imm, List.nil_append, ← decode_of_entryAt found] at selected

/-- A form with one operand byte is encoded by its opcode byte and that byte. -/
theorem encodes_imm8 {k n : Byte} {i : Instr} {name : FormName} {e : Entry} (hv : i.view = .named name)
    (imm : i.imm = [n]) (found : Config.reference.entryAt [k] = some ⟨name, e⟩) : Encodes [k, n] i e := by
  intro tail
  have selected := selects i name e tail hv
  rwa [imm, ← decode_of_entryAt found] at selected

/-- The bytes `op` encode the instruction with the entry `e`, and it executes as the operation `run` (R65, R77). -/
structure IsForm (op : List Byte) (i : Instr) (e : Entry) (run : State → Res) : Prop where
  encodes : Encodes op i e
  exec_eq : ∀ s, exec i s = run s

theorem IsForm.runs {op : List Byte} {i : Instr} {e : Entry} {run : State → Res} (form : IsForm op i e run) {s : State}
    {post : State → Prop} (h : ∃ t, run (s.hold e) = .next t ∧ post t) : Runs i e s post := by
  rwa [Runs, form.exec_eq]

/-! ### Frames -/

theorem ControlUnchanged.setReg_retire (s : State) (r : Reg8) (v : Byte) (o : Computed) :
    ControlUnchanged s ((s.setReg r v).retire o) := by
  constructor <;> simp

theorem ControlUnchanged.setReg16_retire (s : State) (r : Reg16) (v : Word) (o : Computed) :
    ControlUnchanged s ((s.setReg16 r v).retire o) := by
  constructor <;> simp

/-- A form that only moves on and sets flags. -/
theorem Frame.retire (s : State) (o : Computed) : Frame [] [] s (s.retire o) where
  regs r _ := s.reg_retire o r
  mem a _ := s.readByte_retire o a
  ime := rfl
  control := by constructor <;> rfl
  sp := rfl

/-- A form that writes one 8-bit register. -/
theorem Frame.setReg_retire (s : State) (r : Reg8) (v : Byte) (o : Computed) : Frame [r] [] s ((s.setReg r v).retire o) where
  regs r' other := by simp [List.ne_of_not_mem_cons other]
  mem a _ := by simp
  ime := by simp
  control := .setReg_retire s r v o
  sp := by simp

/-- A form that writes one byte of memory. -/
theorem Frame.writeByte_retire (s : State) (a : Word) (v : Byte) (o : Computed) :
    Frame [] [a] s ((s.writeByte a v).retire o) where
  regs r _ := by simp
  mem b other := by simp [List.ne_of_not_mem_cons other]
  ime := rfl
  control := by constructor <;> rfl
  sp := rfl

/-- Writing a 16-bit register writes no 8-bit register but its halves (R23). -/
theorem State.reg_setReg16_other (s : State) {r : Reg16} {r' : Reg8} (v : Word) (other : r' ∉ halves r) :
    (s.setReg16 r v).reg r' = s.reg r' := by
  cases r with
  | SP => exact s.reg_setSp r' v
  | BC | DE | HL =>
    simp only [halves, List.mem_cons, List.not_mem_nil, or_false, not_or] at other
    obtain ⟨notHi, notLo⟩ := other
    simp [notHi, notLo]

theorem State.sp_setReg16_other (s : State) {r : Reg16} (v : Word) (h : r ≠ .SP) :
    (s.setReg16 r v).reg16 .SP = s.reg16 .SP := by
  cases r with
  | SP => exact absurd rfl h
  | BC | DE | HL => rfl

/-- A form that writes one 16-bit register. -/
theorem FrameSp.setReg16_retire (s : State) (r : Reg16) (v : Word) (o : Computed) :
    FrameSp (halves r) [] s ((s.setReg16 r v).retire o) where
  regs r' other := by rw [State.reg_retire, s.reg_setReg16_other v other]
  mem a _ := by simp
  ime := by simp
  control := .setReg16_retire s r v o

/-! ### The end of a form that writes one location, with a table entry in hand -/

theorem wroteLoc_retire (s : State) (e : Entry) (x : Loc8) (v : Byte) {o : Computed} {f : Flags}
    (flags : applyFlags e.flags o s.flags = f) : WroteLoc s e x v f (((s.hold e).setLoc8 x v).retire o) where
  value := by cases x <;> simp
  flags := by simpa using flags
  pc := by simp [State.nextPc, w16]
  frame := by
    cases x with
    | reg r => exact .setReg_retire (s.hold e) r v o
    | indHL => exact .writeByte_retire (s.hold e) _ v o

theorem wroteReg16_retire (s : State) (e : Entry) (r : Reg16) (v : Word) {o : Computed} {f : Flags}
    (flags : applyFlags e.flags o s.flags = f) : WroteReg16 s e r v f (((s.hold e).setReg16 r v).retire o) where
  value := by simp
  flags := by simpa using flags
  pc := by simp [State.nextPc, w16]
  frame := .setReg16_retire (s.hold e) r v o
  sp other := by simp [State.sp_setReg16_other _ v other]

end Sys2Proof.Machine
end

section
/-! ## Add, subtract, compare, increment, decrement (spec 40_arith R84 to R103) -/
namespace Sys2Proof.Machine
open Sys2Proof.Claims

/-! ### Results and computed flags as numbers (R13, R86, R87) -/

/-- A byte masked from a number is zero when the number is a multiple of 256. -/
theorem ofNat8_beq_zero (n : Nat) : (BitVec.ofNat 8 n == 0) = decide (n % 256 = 0) := by
  rw [beq_eq_decide, decide_eq_decide, ← BitVec.toNat_inj]
  rfl

/-- One less, masked, is the number with all ones added (R101, R103). -/
theorem ofInt_pred (w n : Nat) : BitVec.ofInt w ((n : Int) - 1) = BitVec.ofNat w (n + (2 ^ w - 1)) := by
  have pos : 0 < 2 ^ w := Nat.two_pow_pos w
  have wrapped : ((n + (2 ^ w - 1) : Nat) : Int) = (n : Int) - 1 + (2 ^ w : Nat) := by omega
  rw [← BitVec.ofInt_natCast, wrapped]
  apply BitVec.eq_of_toInt_eq
  rw [BitVec.toInt_ofInt, BitVec.toInt_ofInt, Int.add_bmod_right]

theorem toNat_add8_res (a b : Byte) : (add8 a b).res.toNat = (a.toNat + b.toNat) % 256 := BitVec.toNat_ofNat _ _

/-- The masked difference is the difference of the bytes. -/
theorem sub8_res (a b : Byte) : (sub8 a b).res = a - b := by
  apply BitVec.eq_of_toNat_eq
  rw [sub8, BitVec.toNat_ofInt, BitVec.toNat_sub]
  omega

/-- The masked difference of bytes is zero when they are the same. -/
theorem sub8_res_beq_zero (a b : Byte) : ((sub8 a b).res == 0) = decide (a = b) := by
  rw [sub8_res, beq_eq_decide, decide_eq_decide]
  exact sub_eq_zero

theorem toNat_sub8_res (a b : Byte) : (sub8 a b).res.toNat = (a.toNat + 256 - b.toNat) % 256 := by
  have := b.isLt
  rw [sub8_res, BitVec.toNat_sub]
  omega

/-! ### The flags each family sets under its code (R86, R87, R91, R98, R101) -/

theorem applyFlags_add8 (a b : Byte) (f : Flags) : applyFlags Config.codeZ0HC (add8 a b).out f =
    ⟨decide ((a.toNat + b.toNat) % 256 = 0), false, decide (a.toNat % 16 + b.toNat % 16 > 0x0F),
      decide (a.toNat + b.toNat > 0xFF)⟩ := by
  rw [← ofNat8_beq_zero]
  rfl

theorem applyFlags_add16 (a b : Word) (f : Flags) : applyFlags Config.codek0HC (add16 a b).out f =
    ⟨f.z, false, decide (a.toNat % 4096 + b.toNat % 4096 > 0x0FFF), decide (a.toNat + b.toNat > 0xFFFF)⟩ :=
  rfl

theorem applyFlags_sub8 (s : State) (v : Byte) (f : Flags) :
    applyFlags Config.codeZ1HC (sub8 (s.reg .A) v).out f = subFlags s v := by
  rw [subFlags, ← sub8_res_beq_zero]
  rfl

theorem applyFlags_inc8 (v : Byte) (f : Flags) : applyFlags Config.codeZ0Hk (inc8 v).out f =
    ⟨decide (v.toNat = 0xFF), false, decide (v.toNat % 16 = 0x0F), f.c⟩ := by
  have z : decide (v.toNat = 0xFF) = (BitVec.ofNat 8 (v.toNat + 1) == 0) := by
    have := v.isLt
    rw [ofNat8_beq_zero, decide_eq_decide]
    omega
  rw [z]
  rfl

theorem dec8_res (v : Byte) : (dec8 v).res = BitVec.ofNat 8 (v.toNat + 255) := ofInt_pred 8 v.toNat

theorem applyFlags_dec8 (v : Byte) (f : Flags) : applyFlags Config.codeZ1Hk (dec8 v).out f =
    ⟨decide (v.toNat = 1), true, decide (v.toNat % 16 = 0), f.c⟩ := by
  have z : decide (v.toNat = 1) = ((dec8 v).res == 0) := by
    have := v.isLt
    rw [dec8_res, ofNat8_beq_zero, decide_eq_decide]
    omega
  rw [z]
  rfl

theorem dec16_res (v : Word) : (dec16 v).res = w16 (v.toNat + 65535) := ofInt_pred 16 v.toNat

/-- No flag is set under `----`. -/
theorem applyFlags_codeNone (o : Computed) (f : Flags) : applyFlags Config.codeNone o f = f := rfl

/-! ### Each shared operation from any state, with its entry in hand -/

theorem aluAdd_spec (x : Operand8) (s : State) (len : Nat) : ∃ t, aluAdd x (s.hold ⟨len, Config.codeZ0HC⟩) = .next t ∧
    Added s ⟨len, Config.codeZ0HC⟩ (s.operand8 x) t := by
  rw [aluAdd, State.reg_hold, State.operand8_hold]
  obtain ⟨value, flags, pc, frame⟩ :=
    wroteLoc_retire s ⟨len, _⟩ (.reg .A) (add8 (s.reg .A) (s.operand8 x)).res (applyFlags_add8 _ _ s.flags)
  exact ⟨_, rfl, by rw [← toNat_add8_res, ← value]; rfl, flags, pc, frame⟩

theorem aluSub_spec (x : Operand8) (s : State) (len : Nat) : ∃ t, aluSub x (s.hold ⟨len, Config.codeZ1HC⟩) = .next t ∧
    Subtracted s ⟨len, Config.codeZ1HC⟩ (s.operand8 x) t := by
  rw [aluSub, State.reg_hold, State.operand8_hold]
  obtain ⟨value, flags, pc, frame⟩ :=
    wroteLoc_retire s ⟨len, _⟩ (.reg .A) (sub8 (s.reg .A) (s.operand8 x)).res (applyFlags_sub8 s _ s.flags)
  exact ⟨_, rfl, by rw [← toNat_sub8_res, ← value]; rfl, flags, pc, frame⟩

theorem aluCp_spec (x : Operand8) (s : State) (len : Nat) : ∃ t, aluCp x (s.hold ⟨len, Config.codeZ1HC⟩) = .next t ∧
    Compared s ⟨len, Config.codeZ1HC⟩ (s.operand8 x) t := by
  refine ⟨_, rfl, ?flags, rfl, .retire (s.hold _) _⟩
  simp [applyFlags_sub8]

theorem addHL_spec (r : Reg16) (s : State) (len : Nat) : ∃ t, addHL r (s.hold ⟨len, Config.codek0HC⟩) = .next t ∧
    WroteReg16 s ⟨len, Config.codek0HC⟩ .HL (w16 ((s.reg16 .HL).toNat + (s.reg16 r).toNat))
      ⟨s.flags.z, false, decide ((s.reg16 .HL).toNat % 4096 + (s.reg16 r).toNat % 4096 > 0x0FFF),
        decide ((s.reg16 .HL).toNat + (s.reg16 r).toNat > 0xFFFF)⟩ t :=
  ⟨_, rfl, wroteReg16_retire s _ .HL _ (applyFlags_add16 _ _ _)⟩

theorem incByte_spec (x : Loc8) (s : State) (len : Nat) : ∃ t, incByte x (s.hold ⟨len, Config.codeZ0Hk⟩) = .next t ∧
    WroteLoc s ⟨len, Config.codeZ0Hk⟩ x (BitVec.ofNat 8 ((s.loc8 x).toNat + 1))
      ⟨decide ((s.loc8 x).toNat = 0xFF), false, decide ((s.loc8 x).toNat % 16 = 0x0F), s.flags.c⟩ t := by
  rw [incByte, State.loc8_hold]
  exact ⟨_, rfl, wroteLoc_retire s _ x _ (applyFlags_inc8 _ _)⟩

theorem decByte_spec (x : Loc8) (s : State) (len : Nat) : ∃ t, decByte x (s.hold ⟨len, Config.codeZ1Hk⟩) = .next t ∧
    WroteLoc s ⟨len, Config.codeZ1Hk⟩ x (BitVec.ofNat 8 ((s.loc8 x).toNat + 255))
      ⟨decide ((s.loc8 x).toNat = 1), true, decide ((s.loc8 x).toNat % 16 = 0), s.flags.c⟩ t := by
  rw [decByte, State.loc8_hold, ← dec8_res]
  exact ⟨_, rfl, wroteLoc_retire s _ x _ (applyFlags_dec8 _ _)⟩

theorem incWord_spec (r : Reg16) (s : State) (len : Nat) : ∃ t, incWord r (s.hold ⟨len, Config.codeNone⟩) = .next t ∧
    WroteReg16 s ⟨len, Config.codeNone⟩ r (w16 ((s.reg16 r).toNat + 1)) s.flags t :=
  ⟨_, rfl, wroteReg16_retire s _ r _ (applyFlags_codeNone _ _)⟩

theorem decWord_spec (r : Reg16) (s : State) (len : Nat) : ∃ t, decWord r (s.hold ⟨len, Config.codeNone⟩) = .next t ∧
    WroteReg16 s ⟨len, Config.codeNone⟩ r (w16 ((s.reg16 r).toNat + 65535)) s.flags t := by
  rw [decWord, State.reg16_hold, ← dec16_res]
  exact ⟨_, rfl, wroteReg16_retire s _ r _ (applyFlags_codeNone _ _)⟩

/-! ### The forms (R69, R76) -/

theorem addLoc_form (x : Loc8) : IsForm [0x80 ||| x.code] (.addLoc x) ⟨1, Config.codeZ0HC⟩ (aluAdd (.loc x)) := by
  rcases x with ⟨⟨⟩⟩ | _ <;> exact ⟨encodes_plain rfl rfl rfl, fun _ => rfl⟩

theorem subLoc_form (x : Loc8) : IsForm [0x90 ||| x.code] (.subLoc x) ⟨1, Config.codeZ1HC⟩ (aluSub (.loc x)) := by
  rcases x with ⟨⟨⟩⟩ | _ <;> exact ⟨encodes_plain rfl rfl rfl, fun _ => rfl⟩

theorem cpLoc_form (x : Loc8) : IsForm [0xB8 ||| x.code] (.cpLoc x) ⟨1, Config.codeZ1HC⟩ (aluCp (.loc x)) := by
  rcases x with ⟨⟨⟩⟩ | _ <;> exact ⟨encodes_plain rfl rfl rfl, fun _ => rfl⟩

theorem incLoc_form (x : Loc8) : IsForm [0x04 ||| field x.code 3] (.incLoc x) ⟨1, Config.codeZ0Hk⟩ (incByte x) := by
  rcases x with ⟨⟨⟩⟩ | _ <;> exact ⟨encodes_plain rfl rfl rfl, fun _ => rfl⟩

theorem decLoc_form (x : Loc8) : IsForm [0x05 ||| field x.code 3] (.decLoc x) ⟨1, Config.codeZ1Hk⟩ (decByte x) := by
  rcases x with ⟨⟨⟩⟩ | _ <;> exact ⟨encodes_plain rfl rfl rfl, fun _ => rfl⟩

theorem addHLReg16_form (r : Reg16) : IsForm [0x09 ||| field r.code 4] (.addHLReg16 r) ⟨1, Config.codek0HC⟩ (addHL r) := by
  cases r <;> exact ⟨encodes_plain rfl rfl rfl, fun _ => rfl⟩

theorem incReg16_form (r : Reg16) : IsForm [0x03 ||| field r.code 4] (.incReg16 r) ⟨1, Config.codeNone⟩ (incWord r) := by
  cases r <;> exact ⟨encodes_plain rfl rfl rfl, fun _ => rfl⟩

theorem decReg16_form (r : Reg16) : IsForm [0x0B ||| field r.code 4] (.decReg16 r) ⟨1, Config.codeNone⟩ (decWord r) := by
  cases r <;> exact ⟨encodes_plain rfl rfl rfl, fun _ => rfl⟩

theorem add_A_d8_form (n : Byte) : IsForm [0xC6, n] (.add_A_d8 n) ⟨2, Config.codeZ0HC⟩ (aluAdd (.imm n)) :=
  ⟨encodes_imm8 rfl rfl rfl, fun _ => rfl⟩

theorem sub_d8_form (n : Byte) : IsForm [0xD6, n] (.sub_d8 n) ⟨2, Config.codeZ1HC⟩ (aluSub (.imm n)) :=
  ⟨encodes_imm8 rfl rfl rfl, fun _ => rfl⟩

theorem cp_d8_form (n : Byte) : IsForm [0xFE, n] (.cp_d8 n) ⟨2, Config.codeZ1HC⟩ (aluCp (.imm n)) :=
  ⟨encodes_imm8 rfl rfl rfl, fun _ => rfl⟩

/-! ### The statements -/

/-- Settles O1: every form is `aluAdd` of its operand (`aluAdd_spec`). -/
theorem addWritesSumAndFlags : Obligations.AddWritesSumAndFlags :=
  ⟨fun x => ⟨(addLoc_form x).encodes, fun s => (addLoc_form x).runs (aluAdd_spec (.loc x) s 1)⟩,
    fun n => ⟨(add_A_d8_form n).encodes, fun s => (add_A_d8_form n).runs (aluAdd_spec (.imm n) s 2)⟩⟩

/-- Settles O2: every form is `addHL` of its register (`addHL_spec`). -/
theorem addHLWritesSumAndFlags : Obligations.AddHLWritesSumAndFlags :=
  fun r => ⟨(addHLReg16_form r).encodes, fun s => (addHLReg16_form r).runs (addHL_spec r s 1)⟩

/-- Settles O3: every form is `aluSub` of its operand (`aluSub_spec`). -/
theorem subWritesDifferenceAndFlags : Obligations.SubWritesDifferenceAndFlags :=
  ⟨fun x => ⟨(subLoc_form x).encodes, fun s => (subLoc_form x).runs (aluSub_spec (.loc x) s 1)⟩,
    fun n => ⟨(sub_d8_form n).encodes, fun s => (sub_d8_form n).runs (aluSub_spec (.imm n) s 2)⟩⟩

/-- Settles O4: every form is `aluCp` of its operand (`aluCp_spec`). -/
theorem compareSetsFlagsOnly : Obligations.CompareSetsFlagsOnly :=
  ⟨fun x => ⟨(cpLoc_form x).encodes, fun s => (cpLoc_form x).runs (aluCp_spec (.loc x) s 1)⟩,
    fun n => ⟨(cp_d8_form n).encodes, fun s => (cp_d8_form n).runs (aluCp_spec (.imm n) s 2)⟩⟩

/-- Settles O5: every form is `incByte` of its location (`incByte_spec`). -/
theorem incByteResult : Obligations.IncByteResult :=
  fun x => ⟨(incLoc_form x).encodes, fun s => (incLoc_form x).runs (incByte_spec x s 1)⟩

/-- Settles O6: every form is `decByte` of its location (`decByte_spec`). -/
theorem decByteResult : Obligations.DecByteResult :=
  fun x => ⟨(decLoc_form x).encodes, fun s => (decLoc_form x).runs (decByte_spec x s 1)⟩

/-- Settles O7: the forms are `incWord` and `decWord` of their register (`incWord_spec`, `decWord_spec`). -/
theorem incDecWordResult : Obligations.IncDecWordResult :=
  fun r => ⟨(incReg16_form r).encodes, (decReg16_form r).encodes, fun s =>
    ⟨(incReg16_form r).runs (incWord_spec r s 1), (decReg16_form r).runs (decWord_spec r s 1)⟩⟩

end Sys2Proof.Machine
end

section
/-! ## Logic, single-bit test, rotate through carry (spec 41_logic_bit_rotate R104 to R118) -/
namespace Sys2Proof.Machine
open Sys2Proof.Claims

/-! ### The masked bit and the rotated byte (R113, R115) -/

/-- The mask of bit `b`. -/
theorem mask_eq_twoPow (b : Oct) : ((1 <<< b.val : Nat) : Byte) = BitVec.twoPow 8 b.val := by
  apply BitVec.eq_of_toNat_eq
  rw [Nat.one_shiftLeft, BitVec.toNat_twoPow]
  exact BitVec.toNat_ofNat _ _

/-- The masked bit is zero when the bit is clear. -/
theorem bit8_res_beq_zero (b : Oct) (v : Byte) : ((bit8 b v).res == 0) = !v.getLsbD b.val := by
  have nonzero : BitVec.twoPow 8 b.val ≠ 0 := by cases b <;> decide
  rw [bit8, logic8, mask_eq_twoPow, BitVec.and_twoPow]
  cases v.getLsbD b.val with
  | false => rfl
  | true => exact beq_false_of_ne nonzero

/-- Twice the number and the carry is the rotate: bit 0 is the old carry, every other bit the one below it. -/
theorem rl9_res (v : Byte) (c : Bool) : (rl9 v c).res = rotated v c := by
  apply BitVec.eq_of_getLsbD_eq
  intro i hi
  have shifted : v.toNat * 2 + c.toNat = Nat.bit c v.toNat := by rw [Nat.bit_val, Nat.mul_comm]
  rw [rl9, shifted, BitVec.getLsbD_ofNat, rotated, BitVec.getLsbD_or, BitVec.getLsbD_shiftLeft]
  cases i with
  | zero =>
    rw [Nat.testBit_bit_zero]
    cases c <;> rfl
  | succ i =>
    rw [Nat.testBit_bit_succ]
    have carry : (if c then (1 : Byte) else 0).getLsbD (i + 1) = false := by cases c <;> simp
    rw [carry, Bool.or_false]
    simp [hi, BitVec.getLsbD]

/-! ### The flags each family sets under its code (R104 to R118) -/

theorem applyFlags_logic8_codeZ010 (res : Byte) (f : Flags) :
    applyFlags Config.codeZ010 (logic8 res).out f = ⟨decide (res = 0), false, true, false⟩ := rfl

/-- Z under `Z000`, with what makes the result zero said of the operands. -/
theorem applyFlags_logic8_codeZ000 {res : Byte} {p : Prop} [Decidable p] (zero : res = 0 ↔ p) (f : Flags) :
    applyFlags Config.codeZ000 (logic8 res).out f = ⟨decide p, false, false, false⟩ := by
  rw [← decide_eq_decide.mpr zero]
  rfl

theorem applyFlags_bit8 (b : Oct) (v : Byte) (f : Flags) :
    applyFlags Config.codeZ01k (bit8 b v).out f = ⟨!v.getLsbD b.val, false, true, f.c⟩ := by
  rw [← bit8_res_beq_zero]
  rfl

theorem applyFlags_rl9_codeZ00C (v : Byte) (c : Bool) (f : Flags) :
    applyFlags Config.codeZ00C (rl9 v c).out f = ⟨decide (rotated v c = 0), false, false, v.getLsbD 7⟩ := by
  rw [← rl9_res]
  rfl

/-- RLA's code forces Z to 0 (R118). -/
theorem applyFlags_rl9_code000C (v : Byte) (c : Bool) (f : Flags) :
    applyFlags Config.code000C (rl9 v c).out f = ⟨false, false, false, v.getLsbD 7⟩ := rfl

/-! ### Each shared operation from any state, with its entry in hand -/

theorem aluAnd_spec (x : Operand8) (s : State) (len : Nat) : ∃ t, aluAnd x (s.hold ⟨len, Config.codeZ010⟩) = .next t ∧
    WroteA s ⟨len, Config.codeZ010⟩ (s.reg .A &&& s.operand8 x)
      ⟨decide (s.reg .A &&& s.operand8 x = 0), false, true, false⟩ t := by
  rw [aluAnd, State.reg_hold, State.operand8_hold]
  exact ⟨_, rfl, wroteLoc_retire s _ (.reg .A) _ (applyFlags_logic8_codeZ010 _ _)⟩

theorem aluXor_spec (x : Operand8) (s : State) (len : Nat) : ∃ t, aluXor x (s.hold ⟨len, Config.codeZ000⟩) = .next t ∧
    WroteA s ⟨len, Config.codeZ000⟩ (s.reg .A ^^^ s.operand8 x)
      ⟨decide (s.reg .A = s.operand8 x), false, false, false⟩ t := by
  rw [aluXor, State.reg_hold, State.operand8_hold]
  exact ⟨_, rfl, wroteLoc_retire s _ (.reg .A) _ (applyFlags_logic8_codeZ000 BitVec.xor_eq_zero_iff _)⟩

theorem aluOr_spec (x : Operand8) (s : State) (len : Nat) : ∃ t, aluOr x (s.hold ⟨len, Config.codeZ000⟩) = .next t ∧
    WroteA s ⟨len, Config.codeZ000⟩ (s.reg .A ||| s.operand8 x)
      ⟨decide (s.reg .A = 0 ∧ s.operand8 x = 0), false, false, false⟩ t := by
  rw [aluOr, State.reg_hold, State.operand8_hold]
  exact ⟨_, rfl, wroteLoc_retire s _ (.reg .A) _ (applyFlags_logic8_codeZ000 BitVec.or_eq_zero_iff _)⟩

theorem testBit_spec (b : Oct) (x : Loc8) (s : State) (len : Nat) :
    ∃ t, testBit b x (s.hold ⟨len, Config.codeZ01k⟩) = .next t ∧
      SetFlags s ⟨len, Config.codeZ01k⟩ ⟨!(s.loc8 x).getLsbD b.val, false, true, s.flags.c⟩ t := by
  refine ⟨_, rfl, ?flags, rfl, .retire (s.hold _) _⟩
  simp [applyFlags_bit8]

/-- RL and RLA: one rotate, whose Z is what the code in hand makes of it. -/
theorem rotateLeft_spec (x : Loc8) (s : State) (e : Entry) {f : Flags}
    (flags : applyFlags e.flags (rl9 (s.loc8 x) s.flags.c).out s.flags = f) :
    ∃ t, rotateLeft x (s.hold e) = .next t ∧ WroteLoc s e x (rotated (s.loc8 x) s.flags.c) f t := by
  rw [rotateLeft, State.loc8_hold, State.hold_flags, ← rl9_res]
  exact ⟨_, rfl, wroteLoc_retire s e x _ flags⟩

/-! ### The forms (R69, R76) -/

theorem andLoc_form (x : Loc8) : IsForm [0xA0 ||| x.code] (.andLoc x) ⟨1, Config.codeZ010⟩ (aluAnd (.loc x)) := by
  rcases x with ⟨⟨⟩⟩ | _ <;> exact ⟨encodes_plain rfl rfl rfl, fun _ => rfl⟩

theorem xorLoc_form (x : Loc8) : IsForm [0xA8 ||| x.code] (.xorLoc x) ⟨1, Config.codeZ000⟩ (aluXor (.loc x)) := by
  rcases x with ⟨⟨⟩⟩ | _ <;> exact ⟨encodes_plain rfl rfl rfl, fun _ => rfl⟩

theorem orLoc_form (x : Loc8) : IsForm [0xB0 ||| x.code] (.orLoc x) ⟨1, Config.codeZ000⟩ (aluOr (.loc x)) := by
  rcases x with ⟨⟨⟩⟩ | _ <;> exact ⟨encodes_plain rfl rfl rfl, fun _ => rfl⟩

theorem and_d8_form (n : Byte) : IsForm [0xE6, n] (.and_d8 n) ⟨2, Config.codeZ010⟩ (aluAnd (.imm n)) :=
  ⟨encodes_imm8 rfl rfl rfl, fun _ => rfl⟩

theorem xor_d8_form (n : Byte) : IsForm [0xEE, n] (.xor_d8 n) ⟨2, Config.codeZ000⟩ (aluXor (.imm n)) :=
  ⟨encodes_imm8 rfl rfl rfl, fun _ => rfl⟩

theorem or_d8_form (n : Byte) : IsForm [0xF6, n] (.or_d8 n) ⟨2, Config.codeZ000⟩ (aluOr (.imm n)) :=
  ⟨encodes_imm8 rfl rfl rfl, fun _ => rfl⟩

theorem bitLoc_form (b : Oct) (x : Loc8) :
    IsForm [0xCB, 0x40 ||| field b.code 3 ||| x.code] (.bitLoc b x) ⟨2, Config.codeZ01k⟩ (testBit b x) := by
  cases b <;> rcases x with ⟨⟨⟩⟩ | _ <;> exact ⟨encodes_plain rfl rfl rfl, fun _ => rfl⟩

theorem rlLoc_form (x : Loc8) : IsForm [0xCB, 0x10 ||| x.code] (.rlLoc x) ⟨2, Config.codeZ00C⟩ (rotateLeft x) := by
  rcases x with ⟨⟨⟩⟩ | _ <;> exact ⟨encodes_plain rfl rfl rfl, fun _ => rfl⟩

theorem rla_form : IsForm [0x17] .rla ⟨1, Config.code000C⟩ (rotateLeft (.reg .A)) :=
  ⟨encodes_plain rfl rfl rfl, fun _ => rfl⟩

/-! ### The statements -/

/-- Settles O8: every form is `aluAnd`, `aluXor` or `aluOr` of its operand (`aluAnd_spec`, `aluXor_spec`, `aluOr_spec`). -/
theorem logicResults : Obligations.LogicResults :=
  ⟨fun x => ⟨(andLoc_form x).encodes, (xorLoc_form x).encodes, (orLoc_form x).encodes, fun s =>
      ⟨(andLoc_form x).runs (aluAnd_spec (.loc x) s 1), (xorLoc_form x).runs (aluXor_spec (.loc x) s 1),
        (orLoc_form x).runs (aluOr_spec (.loc x) s 1)⟩⟩,
    fun n => ⟨(and_d8_form n).encodes, (xor_d8_form n).encodes, (or_d8_form n).encodes, fun s =>
      ⟨(and_d8_form n).runs (aluAnd_spec (.imm n) s 2), (xor_d8_form n).runs (aluXor_spec (.imm n) s 2),
        (or_d8_form n).runs (aluOr_spec (.imm n) s 2)⟩⟩⟩

/-- Settles O9: every form is `testBit` of its bit and location (`testBit_spec`). -/
theorem bitTestSetsZ : Obligations.BitTestSetsZ :=
  fun b x => ⟨(bitLoc_form b x).encodes, fun s => (bitLoc_form b x).runs (testBit_spec b x s 2)⟩

/-- Settles O10: every form is `rotateLeft` of its location (`rotateLeft_spec`); RLA's code alone forces Z. -/
theorem rotateLeftThroughCarry : Obligations.RotateLeftThroughCarry :=
  ⟨fun x => ⟨(rlLoc_form x).encodes, fun s =>
      (rlLoc_form x).runs (rotateLeft_spec x s _ (applyFlags_rl9_codeZ00C _ _ _))⟩,
    rla_form.encodes, fun s => rla_form.runs (rotateLeft_spec (.reg .A) s _ (applyFlags_rl9_code000C _ _ _))⟩

end Sys2Proof.Machine
end

section
/-! ## Loads and stores (spec 42_load_store R119 to R139) -/
namespace Sys2Proof.Machine
open Sys2Proof.Claims

/-! ### Addresses as numbers (R13, R14, R119) -/

/-- A 16-bit immediate, from its bytes (R14). -/
theorem ofBytes_eq_w16 (hi lo : Byte) : ofBytes hi lo = w16 (hi.toNat * 256 + lo.toNat) := by
  rw [← toNat_ofBytes, w16, BitVec.ofNat_toNat, BitVec.setWidth_eq]

theorem w16_succ (n : Nat) : w16 (n + 1) = w16 n + 1 := BitVec.ofNat_add n 1

theorem ioAddr_eq_w16 (n : Byte) : ioAddr n = w16 (0xFF00 + n.toNat) := by
  rw [ioAddr, w16, BitVec.ofNat_add, BitVec.ofNat_toNat]
  rfl

theorem add_one_eq_w16 (v : Word) : v + 1 = w16 (v.toNat + 1) := by
  rw [w16_succ, w16, BitVec.ofNat_toNat, BitVec.setWidth_eq]

/-- One less is one less than 65536 more (R13). -/
theorem sub_one_eq_w16 (v : Word) : v - 1 = w16 (v.toNat + 65535) := by
  apply BitVec.eq_of_toNat_eq
  rw [BitVec.toNat_sub, w16, BitVec.toNat_ofNat, Nat.add_comm]
  rfl

/-- A form with a 16-bit immediate is encoded by its opcode byte and the immediate, low byte first. -/
theorem encodes_imm16 {k lo hi : Byte} {i : Instr} {name : FormName} {e : Entry} (hv : i.view = .named name)
    (imm : i.imm = imm16Bytes (ofBytes hi lo)) (found : Config.reference.entryAt [k] = some ⟨name, e⟩) :
    Encodes [k, lo, hi] i e := by
  intro tail
  have selected := selects i name e tail hv
  rwa [imm, imm16Bytes, loByte_ofBytes, hiByte_ofBytes, ← decode_of_entryAt found] at selected

/-! ### Frames one after the other -/

theorem ControlUnchanged.trans {s u t : State} (first : ControlUnchanged s u) (second : ControlUnchanged u t) :
    ControlUnchanged s t where
  irq := second.irq.trans first.irq
  bp := second.bp.trans first.bp
  stepping := second.stepping.trans first.stepping
  mode := second.mode.trans first.mode
  fault := second.fault.trans first.fault
  params := second.params.trans first.params
  suspended := second.suspended.trans first.suspended
  entry := second.entry.trans first.entry
  host := second.host.trans first.host
  ended := second.ended.trans first.ended
  replies := second.replies.trans first.replies

/-- Two writes in sequence write what either of them writes. -/
theorem Frame.trans {rs rs' : List Reg8} {as as' : List Word} {s u t : State} (first : Frame rs as s u)
    (second : Frame rs' as' u t) : Frame (rs ++ rs') (as ++ as') s t where
  regs r other := by
    rw [List.mem_append, not_or] at other
    exact (second.regs r other.2).trans (first.regs r other.1)
  mem a other := by
    rw [List.mem_append, not_or] at other
    exact (second.mem a other.2).trans (first.mem a other.1)
  ime := second.ime.trans first.ime
  control := first.control.trans second.control
  sp := second.sp.trans first.sp

/-- The end of an instruction writes nothing a frame speaks of. -/
theorem Frame.of_retire {rs : List Reg8} {as : List Word} {s t : State} {o : Computed} (h : Frame rs as s (t.retire o)) :
    Frame rs as s t where
  regs r other := (t.reg_retire o r).symm.trans (h.regs r other)
  mem a other := (t.readByte_retire o a).symm.trans (h.mem a other)
  ime := h.ime
  control := .trans h.control (by constructor <;> rfl)
  sp := h.sp

/-- A form that writes HL. -/
theorem Frame.setHL_retire (s : State) (v : Word) (o : Computed) :
    Frame [.H, .L] [] s ((s.setReg16 .HL v).retire o) where
  toFrameSp := .setReg16_retire s .HL v o
  sp := rfl

/-! ### Each shared operation from any state, with an entry in hand whose code is `----` -/

/-- A store of a register (R119, R125, R127, R128, R131, R133, R136, R138). -/
def storeReg (a : Ea) (r : Reg8) (s : State) : Res := storeTo a (s.reg r) s

theorem loadByte_spec (d : Reg8) (v : Byte) (s : State) (len : Nat) :
    ∃ t, loadByte d v (s.hold ⟨len, Config.codeNone⟩) = .next t ∧
      WroteLoc s ⟨len, Config.codeNone⟩ (.reg d) v s.flags t :=
  ⟨_, rfl, wroteLoc_retire s _ (.reg d) v (applyFlags_codeNone _ _)⟩

theorem loadWord_spec (d : Reg16) (v : Word) (s : State) (len : Nat) :
    ∃ t, loadWord d v (s.hold ⟨len, Config.codeNone⟩) = .next t ∧ WroteReg16 s ⟨len, Config.codeNone⟩ d v s.flags t :=
  ⟨_, rfl, wroteReg16_retire s _ d v (applyFlags_codeNone _ _)⟩

/-- A load through an address that leaves its base register alone. -/
theorem loadFrom_spec (d : Reg8) {a : Ea} (still : ∀ u : State, u.afterAccess a = u) (s : State) (len : Nat) :
    ∃ t, loadFrom d a (s.hold ⟨len, Config.codeNone⟩) = .next t ∧
      WroteLoc s ⟨len, Config.codeNone⟩ (.reg d) (s.readByte (s.ea a)) s.flags t := by
  rw [loadFrom, still, State.ea_hold, State.readByte_hold]
  exact loadByte_spec d _ s len

/-- A store through an address that leaves its base register alone. -/
theorem storeTo_spec {a : Ea} (still : ∀ u : State, u.afterAccess a = u) (v : Byte) (s : State) (len : Nat) :
    ∃ t, storeTo a v (s.hold ⟨len, Config.codeNone⟩) = .next t ∧ Stored s ⟨len, Config.codeNone⟩ (s.ea a) v t := by
  rw [storeTo, still, State.ea_hold]
  exact ⟨_, rfl, by simp, rfl, rfl, .writeByte_retire (s.hold _) _ v _⟩

theorem storeReg_spec {a : Ea} (still : ∀ u : State, u.afterAccess a = u) (r : Reg8) (s : State) (len : Nat) :
    ∃ t, storeReg a r (s.hold ⟨len, Config.codeNone⟩) = .next t ∧
      Stored s ⟨len, Config.codeNone⟩ (s.ea a) (s.reg r) t := by
  rw [storeReg, State.reg_hold]
  exact storeTo_spec still _ s len

/-- A store of a word: its low byte at the address, its high byte at the next, where 0xFFFF is followed by 0x0000 (R49). -/
theorem storeWord_spec (n : Nat) (v : Word) (s : State) :
    ∃ t, storeWord (w16 n) v (s.hold ⟨3, Config.codeNone⟩) = .next t ∧
      (t.readByte (w16 n)).toNat = v.toNat % 256 ∧ (t.readByte (w16 (n + 1))).toNat = v.toNat / 256 ∧
        t.flags = s.flags ∧ t.pc = s.pc + 3 ∧ Frame [] [w16 n, w16 (n + 1)] (s.hold ⟨3, Config.codeNone⟩) t := by
  rw [w16_succ]
  refine ⟨_, rfl, ?low, ?high, rfl, rfl, ?frame⟩
  case low => rw [State.readByte_retire, State.readByte_writeWord_low, toNat_loByte]
  case high => rw [State.readByte_retire, State.readByte_writeWord_high, toNat_hiByte]
  case frame =>
    exact (Frame.writeByte_retire _ (w16 n) (loByte v) .noResult).of_retire.trans (.writeByte_retire _ (w16 n + 1) _ _)

/-! ### Access at HL, then a step of HL (R119, R127 to R130) -/

/-- The address is HL, and after the access HL has `delta` added, modulo 65536. -/
structure StepsHL (a : Ea) (delta : Nat) : Prop where
  ea : ∀ s : State, s.ea a = s.reg16 .HL
  after : ∀ s : State, s.afterAccess a = s.setReg16 .HL (w16 ((s.reg16 .HL).toNat + delta))

theorem stepsHL_inc : StepsHL .indHLinc 1 where
  ea _ := rfl
  after s := by rw [← add_one_eq_w16]; rfl

theorem stepsHL_dec : StepsHL .indHLdec 65535 where
  ea _ := rfl
  after s := by rw [← sub_one_eq_w16]; rfl

/-- The store leaves HL as it was, so the step is from the old HL. -/
theorem StepsHL.stores {a : Ea} {delta : Nat} (steps : StepsHL a delta) {i : Instr} {op : Byte}
    (form : IsForm [op] i ⟨1, Config.codeNone⟩ (storeReg a .A)) : StoresAndSteps i op delta := by
  refine ⟨form.encodes, fun s => form.runs ?_⟩
  rw [storeReg, storeTo, steps.after, steps.ea, State.reg16_writeByte]
  refine ⟨_, rfl, by simp, by simp, rfl, rfl, ?frame⟩
  exact (Frame.writeByte_retire _ _ _ .noResult).of_retire.trans (.setHL_retire _ _ _)

/-- A is neither half of HL (R23). -/
theorem State.hl_setA (s : State) (v : Byte) : (s.setReg .A v).reg16 .HL = s.reg16 .HL := rfl

/-- The load of A leaves HL as it was, so the step is from the old HL. -/
theorem StepsHL.loads {a : Ea} {delta : Nat} (steps : StepsHL a delta) {i : Instr} {op : Byte}
    (form : IsForm [op] i ⟨1, Config.codeNone⟩ (loadFrom .A a)) : LoadsAndSteps i op delta := by
  refine ⟨form.encodes, fun s => form.runs ?_⟩
  rw [loadFrom, steps.after, steps.ea, State.hl_setA]
  refine ⟨_, rfl, by simp, by simp, rfl, rfl, ?frame⟩
  exact (Frame.setReg_retire _ .A _ .noResult).of_retire.trans (.setHL_retire _ _ _)

/-! ### The forms (R69, R76) -/

theorem ldRegReg_form (d x : Reg8) : IsForm [0x40 ||| field d.code 3 ||| x.code] (.ldRegReg d x) ⟨1, Config.codeNone⟩
    (fun s => loadByte d (s.reg x) s) := by
  cases d <;> cases x <;> exact ⟨encodes_plain rfl rfl rfl, fun _ => rfl⟩

theorem ldRegImm_form (d : Reg8) (n : Byte) :
    IsForm [0x06 ||| field d.code 3, n] (.ldRegImm d n) ⟨2, Config.codeNone⟩ (loadByte d n) := by
  cases d <;> exact ⟨encodes_imm8 rfl rfl rfl, fun _ => rfl⟩

theorem ldReg16Imm_form (r : Reg16) (lo hi : Byte) : IsForm [0x01 ||| field r.code 4, lo, hi]
    (.ldReg16Imm r (ofBytes hi lo)) ⟨3, Config.codeNone⟩ (loadWord r (ofBytes hi lo)) := by
  cases r <;> exact ⟨encodes_imm16 rfl rfl rfl, fun _ => rfl⟩

theorem ld_SP_HL_form : IsForm [0xF9] .ld_SP_HL ⟨1, Config.codeNone⟩ (fun s => loadWord .SP (s.reg16 .HL) s) :=
  ⟨encodes_plain rfl rfl rfl, fun _ => rfl⟩

theorem ldRegInd_form (d : Reg8) :
    IsForm [0x46 ||| field d.code 3] (.ldRegInd d) ⟨1, Config.codeNone⟩ (loadFrom d (.ind .HL)) := by
  cases d <;> exact ⟨encodes_plain rfl rfl rfl, fun _ => rfl⟩

theorem ldIndReg_form (x : Reg8) :
    IsForm [0x70 ||| x.code] (.ldIndReg x) ⟨1, Config.codeNone⟩ (storeReg (.ind .HL) x) := by
  cases x <;> exact ⟨encodes_plain rfl rfl rfl, fun _ => rfl⟩

theorem ld_indHL_d8_form (n : Byte) : IsForm [0x36, n] (.ld_indHL_d8 n) ⟨2, Config.codeNone⟩ (storeTo (.ind .HL) n) :=
  ⟨encodes_imm8 rfl rfl rfl, fun _ => rfl⟩

theorem ld_indHLinc_A_form : IsForm [0x22] .ld_indHLinc_A ⟨1, Config.codeNone⟩ (storeReg .indHLinc .A) :=
  ⟨encodes_plain rfl rfl rfl, fun _ => rfl⟩

theorem ld_indHLdec_A_form : IsForm [0x32] .ld_indHLdec_A ⟨1, Config.codeNone⟩ (storeReg .indHLdec .A) :=
  ⟨encodes_plain rfl rfl rfl, fun _ => rfl⟩

theorem ld_A_indHLinc_form : IsForm [0x2A] .ld_A_indHLinc ⟨1, Config.codeNone⟩ (loadFrom .A .indHLinc) :=
  ⟨encodes_plain rfl rfl rfl, fun _ => rfl⟩

theorem ld_A_indHLdec_form : IsForm [0x3A] .ld_A_indHLdec ⟨1, Config.codeNone⟩ (loadFrom .A .indHLdec) :=
  ⟨encodes_plain rfl rfl rfl, fun _ => rfl⟩

theorem ld_indBC_A_form : IsForm [0x02] .ld_indBC_A ⟨1, Config.codeNone⟩ (storeReg (.ind .BC) .A) :=
  ⟨encodes_plain rfl rfl rfl, fun _ => rfl⟩

theorem ld_indDE_A_form : IsForm [0x12] .ld_indDE_A ⟨1, Config.codeNone⟩ (storeReg (.ind .DE) .A) :=
  ⟨encodes_plain rfl rfl rfl, fun _ => rfl⟩

theorem ld_A_indBC_form : IsForm [0x0A] .ld_A_indBC ⟨1, Config.codeNone⟩ (loadFrom .A (.ind .BC)) :=
  ⟨encodes_plain rfl rfl rfl, fun _ => rfl⟩

theorem ld_A_indDE_form : IsForm [0x1A] .ld_A_indDE ⟨1, Config.codeNone⟩ (loadFrom .A (.ind .DE)) :=
  ⟨encodes_plain rfl rfl rfl, fun _ => rfl⟩

theorem ld_indA16_A_form (lo hi : Byte) : IsForm [0xEA, lo, hi] (.ld_indA16_A (ofBytes hi lo)) ⟨3, Config.codeNone⟩
    (storeReg (.indA16 (ofBytes hi lo)) .A) :=
  ⟨encodes_imm16 rfl rfl rfl, fun _ => rfl⟩

theorem ld_A_indA16_form (lo hi : Byte) : IsForm [0xFA, lo, hi] (.ld_A_indA16 (ofBytes hi lo)) ⟨3, Config.codeNone⟩
    (loadFrom .A (.indA16 (ofBytes hi lo))) :=
  ⟨encodes_imm16 rfl rfl rfl, fun _ => rfl⟩

theorem ld_indA16_SP_form (lo hi : Byte) : IsForm [0x08, lo, hi] (.ld_indA16_SP (ofBytes hi lo)) ⟨3, Config.codeNone⟩
    (fun s => storeWord (ofBytes hi lo) (s.reg16 .SP) s) :=
  ⟨encodes_imm16 rfl rfl rfl, fun _ => rfl⟩

theorem ld_indC_A_form : IsForm [0xE2] .ld_indC_A ⟨1, Config.codeNone⟩ (storeReg .indC .A) :=
  ⟨encodes_plain rfl rfl rfl, fun _ => rfl⟩

theorem ld_A_indC_form : IsForm [0xF2] .ld_A_indC ⟨1, Config.codeNone⟩ (loadFrom .A .indC) :=
  ⟨encodes_plain rfl rfl rfl, fun _ => rfl⟩

theorem ldh_indA8_A_form (n : Byte) : IsForm [0xE0, n] (.ldh_indA8_A n) ⟨2, Config.codeNone⟩ (storeReg (.indA8 n) .A) :=
  ⟨encodes_imm8 rfl rfl rfl, fun _ => rfl⟩

theorem ldh_A_indA8_form (n : Byte) : IsForm [0xF0, n] (.ldh_A_indA8 n) ⟨2, Config.codeNone⟩ (loadFrom .A (.indA8 n)) :=
  ⟨encodes_imm8 rfl rfl rfl, fun _ => rfl⟩

/-! ### The statements -/

/-- Settles O11: every form is `loadByte` of a register or an immediate (`loadByte_spec`). -/
theorem loadRegister : Obligations.LoadRegister :=
  ⟨fun d x => ⟨(ldRegReg_form d x).encodes, fun s => (ldRegReg_form d x).runs (loadByte_spec d (s.reg x) s 1)⟩,
    fun d n => ⟨(ldRegImm_form d n).encodes, fun s => (ldRegImm_form d n).runs (loadByte_spec d n s 2)⟩⟩

/-- Settles O12: every form is `loadWord` of an immediate or of HL (`loadWord_spec`). -/
theorem loadRegister16 : Obligations.LoadRegister16 :=
  ⟨fun r lo hi => ⟨(ldReg16Imm_form r lo hi).encodes, fun s =>
      (ldReg16Imm_form r lo hi).runs (ofBytes_eq_w16 hi lo ▸ loadWord_spec r (ofBytes hi lo) s 3)⟩,
    ld_SP_HL_form.encodes, fun s => ld_SP_HL_form.runs (loadWord_spec .SP (s.reg16 .HL) s 1)⟩

/-- Settles O13: every form is `loadFrom` or `storeTo` at HL, which stays (`loadFrom_spec`, `storeTo_spec`). -/
theorem loadStoreThroughHL : Obligations.LoadStoreThroughHL :=
  ⟨fun d => ⟨(ldRegInd_form d).encodes, fun s => (ldRegInd_form d).runs (loadFrom_spec d (fun _ => rfl) s 1)⟩,
    fun x => ⟨(ldIndReg_form x).encodes, fun s => (ldIndReg_form x).runs (storeReg_spec (fun _ => rfl) x s 1)⟩,
    fun n => ⟨(ld_indHL_d8_form n).encodes, fun s => (ld_indHL_d8_form n).runs (storeTo_spec (fun _ => rfl) n s 2)⟩⟩

/-- Settles O14: each address is HL with a step after the access (`StepsHL.stores`, `StepsHL.loads`). -/
theorem loadStoreAndStepHL : Obligations.LoadStoreAndStepHL :=
  ⟨stepsHL_inc.stores ld_indHLinc_A_form, stepsHL_dec.stores ld_indHLdec_A_form,
    stepsHL_inc.loads ld_A_indHLinc_form, stepsHL_dec.loads ld_A_indHLdec_form⟩

/-- Settles O15: every form is a store or a load of A at a pair, which stays (`storeReg_spec`, `loadFrom_spec`). -/
theorem loadStoreThroughBCAndDE : Obligations.LoadStoreThroughBCAndDE :=
  ⟨ld_indBC_A_form.encodes, ld_indDE_A_form.encodes, ld_A_indBC_form.encodes, ld_A_indDE_form.encodes, fun s =>
    ⟨ld_indBC_A_form.runs (storeReg_spec (fun _ => rfl) .A s 1), ld_indDE_A_form.runs (storeReg_spec (fun _ => rfl) .A s 1),
      ld_A_indBC_form.runs (loadFrom_spec .A (fun _ => rfl) s 1), ld_A_indDE_form.runs (loadFrom_spec .A (fun _ => rfl) s 1)⟩⟩

/-- Settles O16: both forms access the immediate address, which is `ofBytes` of its bytes (`ofBytes_eq_w16`). -/
theorem loadStoreAbsolute : Obligations.LoadStoreAbsolute := by
  intro lo hi
  rw [← ofBytes_eq_w16]
  exact ⟨(ld_indA16_A_form lo hi).encodes, (ld_A_indA16_form lo hi).encodes, fun s =>
    ⟨(ld_indA16_A_form lo hi).runs (storeReg_spec (fun _ => rfl) .A s 3),
      (ld_A_indA16_form lo hi).runs (loadFrom_spec .A (fun _ => rfl) s 3)⟩⟩

/-- Settles O17: the form is `storeWord` of SP at the immediate address (`storeWord_spec`, `ofBytes_eq_w16`). -/
theorem storeSPAbsolute : Obligations.StoreSPAbsolute :=
  fun lo hi => ⟨(ld_indA16_SP_form lo hi).encodes, fun s => (ld_indA16_SP_form lo hi).runs <| by
    rw [ofBytes_eq_w16]
    exact storeWord_spec _ (s.reg16 .SP) s⟩

/-- Settles O18: every form is a store or a load of A at an address of the I/O page (`ioAddr_eq_w16`). -/
theorem loadStoreIoShortForms : Obligations.LoadStoreIoShortForms := by
  refine ⟨ld_indC_A_form.encodes, ld_A_indC_form.encodes, fun s => ?offsetC, fun n =>
    ⟨(ldh_indA8_A_form n).encodes, (ldh_A_indA8_form n).encodes, fun s => ?offsetImm⟩⟩
  case offsetC =>
    rw [← ioAddr_eq_w16]
    exact ⟨ld_indC_A_form.runs (storeReg_spec (fun _ => rfl) .A s 1),
      ld_A_indC_form.runs (loadFrom_spec .A (fun _ => rfl) s 1)⟩
  case offsetImm =>
    rw [← ioAddr_eq_w16]
    exact ⟨(ldh_indA8_A_form n).runs (storeReg_spec (fun _ => rfl) .A s 2),
      (ldh_A_indA8_form n).runs (loadFrom_spec .A (fun _ => rfl) s 2)⟩

end Sys2Proof.Machine
end

section
/-! ## Relative jumps, calls, returns, push and pop (spec 43_control R140 to R149) -/
namespace Sys2Proof.Machine
open Sys2Proof.Claims

/-! ### Conditions (R140) -/

theorem checkCondition_iff (c : Cond) (f : Flags) : checkCondition c f = true ↔ holds c f := by
  cases c <;> simp [checkCondition, holds]

theorem ifCond_of_holds {c : Cond} {s : State} (h : holds c s.flags) (taken : State → Res) : ifCond c taken s = taken s :=
  if_pos ((checkCondition_iff c s.flags).mpr h)

theorem ifCond_of_not_holds {c : Cond} {s : State} (h : ¬ holds c s.flags) (taken : State → Res) :
    ifCond c taken s = .next (s.retire .noResult) :=
  if_neg (mt (checkCondition_iff c s.flags).mp h)

/-! ### The target of a relative jump (R15, R142) -/

theorem sext16_eq_ofInt (n : Byte) : sext16 n = BitVec.ofInt 16 (signed n) := by
  rw [sext16, signed]
  split
  · rw [BitVec.ofInt_natCast, BitVec.ofNat_toNat]
  · rfl

/-- The base is the address of the following instruction, two bytes on (D5). -/
theorem add_two_add_sext16 (s : State) (n : Byte) : s.pc + 2 + sext16 n = relTarget s n := by
  rw [relTarget, BitVec.ofInt_add, BitVec.ofInt_add, BitVec.ofInt_natCast, BitVec.ofNat_toNat, BitVec.setWidth_eq,
    sext16_eq_ofInt]
  rfl

/-! ### The stack (R57, R58) -/

theorem sub_one_sub_one (v : Word) : v - 1 - 1 = v - 2 := by bv_omega

theorem State.top16_eq_onStack (s : State) : s.top16 = onStack s := ofBytes_eq_w16 _ _

/-! ### Frames -/

/-- A form that only sets flags and PC. -/
theorem Frame.jump (s : State) (o : Computed) (target : Word) : Frame [] [] s (s.jump o target) where
  regs r _ := s.reg_jump o target r
  mem a _ := s.readByte_jump o target a
  ime := rfl
  control := by constructor <;> rfl
  sp := rfl

/-- A form that pushes writes the two bytes below SP. -/
theorem FrameSp.push16_jump (s : State) (v : Word) (o : Computed) (target : Word) :
    FrameSp [] [s.reg16 .SP - 1, s.reg16 .SP - 2] s ((s.push16 v).jump o target) where
  regs r _ := by simp
  mem a other := by
    simp only [List.mem_cons, List.not_mem_nil, or_false, not_or] at other
    obtain ⟨notHigh, notLow⟩ := other
    rw [State.readByte_jump, State.readByte_push16, sub_one_sub_one, if_neg notLow, if_neg notHigh]
  ime := rfl
  control := by constructor <;> rfl

theorem FrameSp.pop16_jump (s : State) (o : Computed) (target : Word) : FrameSp [] [] s (s.pop16.jump o target) where
  regs r _ := by simp
  mem a _ := by simp
  ime := rfl
  control := by constructor <;> rfl

/-- A form that pops into a 16-bit register writes its halves. -/
theorem FrameSp.pop16_setReg16_retire (s : State) (r : Reg16) (v : Word) (o : Computed) :
    FrameSp (halves r) [] s ((s.pop16.setReg16 r v).retire o) where
  regs r' other := by rw [State.reg_retire, State.reg_setReg16_other _ v other, State.reg_pop16]
  mem a _ := by simp
  ime := by simp
  control := by constructor <;> simp

/-! ### The end of a form that sets PC or pushes, with an entry in hand whose code is `----` -/

theorem jumped_jump (s : State) (len : Nat) (target : Word) : Jumped s ⟨len, Config.codeNone⟩ target
    ((s.hold ⟨len, Config.codeNone⟩).jump .noResult target) where
  pc := rfl
  flags := rfl
  frame := .jump _ _ _

theorem pushed_jump (s : State) (len : Nat) (v target : Word) : Pushed s ⟨len, Config.codeNone⟩ v target
    (((s.hold ⟨len, Config.codeNone⟩).push16 v).jump .noResult target) where
  sp := sub_one_sub_one _
  high := by
    rw [State.readByte_jump, ← s.reg16_hold ⟨len, Config.codeNone⟩, State.readByte_push16_high, toNat_hiByte]
  low := by
    rw [State.readByte_jump, ← s.reg16_hold ⟨len, Config.codeNone⟩, ← sub_one_sub_one, State.readByte_push16_low,
      toNat_loByte]
  pc := rfl
  flags := rfl
  frame := .push16_jump (s.hold ⟨len, _⟩) v _ _

/-! ### Each shared operation from any state, with its entry in hand -/

theorem jumpRelative_spec (n : Byte) (s : State) : ∃ t, jumpRelative n (s.hold ⟨2, Config.codeNone⟩) = .next t ∧
    Jumped s ⟨2, Config.codeNone⟩ (relTarget s n) t := by
  rw [← add_two_add_sext16]
  exact ⟨_, rfl, jumped_jump s 2 _⟩

theorem callTo_spec (nn : Word) (s : State) : ∃ t, callTo nn (s.hold ⟨3, Config.codeNone⟩) = .next t ∧
    Pushed s ⟨3, Config.codeNone⟩ (s.pc + 3) nn t :=
  ⟨_, rfl, pushed_jump s 3 _ nn⟩

theorem returnFromStack_spec (s : State) (len : Nat) :
    ∃ t, returnFromStack (s.hold ⟨len, Config.codeNone⟩) = .next t ∧ Returned s ⟨len, Config.codeNone⟩ t :=
  ⟨_, rfl, s.top16_eq_onStack, by simp, rfl, .pop16_jump (s.hold _) _ _⟩

theorem pushPair_spec (p : Pair) (s : State) (len : Nat) :
    ∃ t, pushPair p (s.hold ⟨len, Config.codeNone⟩) = .next t ∧
      Pushed s ⟨len, Config.codeNone⟩ (s.reg16 p.toReg16) (s.pc + w16 len) t := by
  rw [pushPair, State.reg16_hold]
  exact ⟨_, rfl, pushed_jump s len _ _⟩

theorem popPair_spec (p : Pair) (s : State) (len : Nat) : ∃ t, popPair p (s.hold ⟨len, Config.codeNone⟩) = .next t ∧
    t.reg16 p.toReg16 = onStack s ∧ t.reg16 .SP = s.reg16 .SP + 2 ∧ t.flags = s.flags ∧ t.pc = s.pc + w16 len ∧
      FrameSp (halves p.toReg16) [] (s.hold ⟨len, Config.codeNone⟩) t := by
  refine ⟨_, rfl, ?value, by simp, ?flags, ?pc, .pop16_setReg16_retire (s.hold _) _ _ _⟩
  case value =>
    rw [State.reg16_retire, State.reg16_setReg16_self]
    exact s.top16_eq_onStack
  case flags => simp [applyFlags_codeNone]
  case pc => simp [State.nextPc, w16]

/-- A conditional form does what it does when taken if its condition holds, and else only moves past itself (R143, R145, R147). -/
theorem IsForm.runs_ifCond {op : List Byte} {i : Instr} {len : Nat} {c : Cond} {taken : State → Res}
    (form : IsForm op i ⟨len, Config.codeNone⟩ (ifCond c taken)) {s : State} {post : State → Prop}
    (spec : ∃ t, taken (s.hold ⟨len, Config.codeNone⟩) = .next t ∧ post t) :
    (holds c s.flags → Runs i ⟨len, Config.codeNone⟩ s post) ∧
      (¬ holds c s.flags → Runs i ⟨len, Config.codeNone⟩ s (Jumped s ⟨len, Config.codeNone⟩ (s.pc + w16 len))) := by
  rw [← s.hold_flags ⟨len, Config.codeNone⟩]
  refine ⟨fun h => form.runs ?_, fun h => form.runs ?_⟩
  · rwa [ifCond_of_holds h]
  · rw [ifCond_of_not_holds h]
    exact ⟨_, rfl, jumped_jump s len _⟩

/-! ### The forms (R69, R76) -/

theorem jr_r8_form (n : Byte) : IsForm [0x18, n] (.jr_r8 n) ⟨2, Config.codeNone⟩ (jumpRelative n) :=
  ⟨encodes_imm8 rfl rfl rfl, fun _ => rfl⟩

theorem jrCond_form (c : Cond) (n : Byte) :
    IsForm [0x20 ||| field c.code 3, n] (.jrCond c n) ⟨2, Config.codeNone⟩ (ifCond c (jumpRelative n)) := by
  cases c <;> exact ⟨encodes_imm8 rfl rfl rfl, fun _ => rfl⟩

theorem call_a16_form (lo hi : Byte) :
    IsForm [0xCD, lo, hi] (.call_a16 (ofBytes hi lo)) ⟨3, Config.codeNone⟩ (callTo (ofBytes hi lo)) :=
  ⟨encodes_imm16 rfl rfl rfl, fun _ => rfl⟩

theorem callCond_form (c : Cond) (lo hi : Byte) : IsForm [0xC4 ||| field c.code 3, lo, hi]
    (.callCond c (ofBytes hi lo)) ⟨3, Config.codeNone⟩ (ifCond c (callTo (ofBytes hi lo))) := by
  cases c <;> exact ⟨encodes_imm16 rfl rfl rfl, fun _ => rfl⟩

theorem ret_form : IsForm [0xC9] .ret ⟨1, Config.codeNone⟩ returnFromStack :=
  ⟨encodes_plain rfl rfl rfl, fun _ => rfl⟩

theorem retCond_form (c : Cond) :
    IsForm [0xC0 ||| field c.code 3] (.retCond c) ⟨1, Config.codeNone⟩ (ifCond c returnFromStack) := by
  cases c <;> exact ⟨encodes_plain rfl rfl rfl, fun _ => rfl⟩

theorem pushPair_form (p : Pair) : IsForm [0xC5 ||| field p.code 4] (.pushPair p) ⟨1, Config.codeNone⟩ (pushPair p) := by
  cases p <;> exact ⟨encodes_plain rfl rfl rfl, fun _ => rfl⟩

theorem popPair_form (p : Pair) : IsForm [0xC1 ||| field p.code 4] (.popPair p) ⟨1, Config.codeNone⟩ (popPair p) := by
  cases p <;> exact ⟨encodes_plain rfl rfl rfl, fun _ => rfl⟩

/-! ### The statements -/

/-- Settles O19: every form is `jumpRelative`, under its condition or not (`jumpRelative_spec`, `IsForm.runs_ifCond`). -/
theorem relativeJumps : Obligations.RelativeJumps :=
  fun n => ⟨(jr_r8_form n).encodes, fun s => (jr_r8_form n).runs (jumpRelative_spec n s),
    fun c => ⟨(jrCond_form c n).encodes, fun s => (jrCond_form c n).runs_ifCond (jumpRelative_spec n s)⟩⟩

/-- Settles O20: every form is `callTo` its immediate, under its condition or not (`callTo_spec`, `IsForm.runs_ifCond`). -/
theorem callsPushReturnAddress : Obligations.CallsPushReturnAddress := by
  intro lo hi
  rw [← ofBytes_eq_w16]
  exact ⟨(call_a16_form lo hi).encodes, fun s => (call_a16_form lo hi).runs (callTo_spec _ s),
    fun c => ⟨(callCond_form c lo hi).encodes, fun s => (callCond_form c lo hi).runs_ifCond (callTo_spec _ s)⟩⟩

/-- Settles O21: every form is `returnFromStack`, under its condition or not (`returnFromStack_spec`, `IsForm.runs_ifCond`). -/
theorem returnsPopPC : Obligations.ReturnsPopPC :=
  ⟨ret_form.encodes, fun s => ret_form.runs (returnFromStack_spec s 1),
    fun c => ⟨(retCond_form c).encodes, fun s => (retCond_form c).runs_ifCond (returnFromStack_spec s 1)⟩⟩

/-- Settles O22: every form is `pushPair` of its pair (`pushPair_spec`). -/
theorem pushPairResult : Obligations.PushPairResult :=
  fun p => ⟨(pushPair_form p).encodes, fun s => (pushPair_form p).runs (pushPair_spec p s 1)⟩

/-- Settles O23: every form is `popPair` of its pair (`popPair_spec`). -/
theorem popPairResult : Obligations.PopPairResult :=
  fun p => ⟨(popPair_form p).encodes, fun s => (popPair_form p).runs (popPair_spec p s 1)⟩

end Sys2Proof.Machine
end

section
/-! ## DI, NOP, and IME under any step (spec 44_system R150 to R152, 10_state R39) -/
namespace Sys2Proof.Machine
open Sys2Proof.Claims

/-! ### No step sets IME (R152, R172) -/

/-- The interrupt check sets IME in no case: it does nothing, or vectors with IME set before it (R168, R169). -/
theorem State.ime_of_boundary {s : State} (on : s.boundary.ime = true) : s.ime = true := by
  obtain same | ⟨_, -, ime, -, -⟩ := boundary_cases s
  · rwa [same] at on
  · exact ime

theorem ime_of_coreStep {s t : State} (h : coreStep s = .next t) (on : t.ime = true) : s.ime = true := by
  obtain ⟨e, u, effect, rfl⟩ := effect_of_coreStep h
  exact effect.ime (State.ime_of_boundary on)

/-- IME is set after a move of the run loop only if it was set before: host moves, the gate and the commands leave it as it is. -/
theorem ime_of_step {s t : State} (h : step s = .next t) (on : t.ime = true) : s.ime = true := by
  obtain ⟨-, -, move⟩ := loopMove_of_step h
  cases move with
  | request _ _ => exact on
  | stop _ => exact on
  | wait _ _ => exact on
  | prompt _ _ _ => exact ((SameArch.withHost s _).trans (.command _ _)).ime.symm.trans on
  | resumed _ _ _ core => exact ((SameArch.withHost s _).trans (.command _ _)).ime.symm.trans (ime_of_coreStep core on)
  | paused _ _ _ => exact ((SameArch.withHost s _).trans (gate_same _).1).ime.symm.trans on
  | ran _ _ _ core => exact ((SameArch.withHost s _).trans (gate_same _).1).ime.symm.trans (ime_of_coreStep core on)

/-- Settles O43: the contrapositive of `ime_of_step`. -/
theorem stepNeverSetsIme : Obligations.StepNeverSetsIme :=
  fun _ _ h off => Bool.eq_false_iff.mpr fun on => Bool.eq_false_iff.mp off (ime_of_step h on)

/-! ### DI and NOP (R150, R151) -/

/-- With IME clear the interrupt check does nothing (R168). -/
theorem State.boundary_of_ime_clear {s : State} (off : s.ime = false) : s.boundary = s := by
  obtain same | ⟨_, -, on, -, -⟩ := boundary_cases s
  · exact same
  · exact absurd on (Bool.eq_false_iff.mp off)

/-- What DI leaves: IME clear, so that the check of the same step has nothing to do, and everything else but PC as it was. -/
theorem execDi_spec (s : State) (len : Nat) : ∃ t, execDi (s.hold ⟨len, Config.codeNone⟩) = .next t ∧
    t.ime = false ∧ t.irq = s.irq ∧ t.flags = s.flags ∧ t.pc = s.pc + w16 len ∧ t.boundary = t ∧
      t.reg16 .SP = s.reg16 .SP ∧ RegsUnchangedExcept [] s t ∧ MemUnchangedExcept [] s t ∧
      ControlUnchanged (s.hold ⟨len, Config.codeNone⟩) t := by
  refine ⟨_, rfl, rfl, rfl, rfl, rfl, State.boundary_of_ime_clear rfl, rfl, ?regs, ?mem, ?control⟩
  case regs => exact fun r _ => by simp
  case mem => exact fun a _ => by simp
  case control => constructor <;> rfl

theorem execNop_spec (s : State) (len : Nat) : ∃ t, execNop (s.hold ⟨len, Config.codeNone⟩) = .next t ∧
    Jumped s ⟨len, Config.codeNone⟩ (s.pc + w16 len) t :=
  ⟨_, rfl, jumped_jump s len _⟩

theorem di_form : IsForm [0xF3] .di ⟨1, Config.codeNone⟩ execDi :=
  ⟨encodes_plain rfl rfl rfl, fun _ => rfl⟩

theorem nop_form : IsForm [0x00] .nop ⟨1, Config.codeNone⟩ execNop :=
  ⟨encodes_plain rfl rfl rfl, fun _ => rfl⟩

/-- Settles O25: DI is `execDi` (`execDi_spec`). -/
theorem diClearsIme : Obligations.DiClearsIme :=
  ⟨di_form.encodes, fun s => di_form.runs (execDi_spec s 1)⟩

/-- Settles O26: NOP is `execNop` (`execNop_spec`). -/
theorem nopMovesOn : Obligations.NopMovesOn :=
  ⟨nop_form.encodes, fun s => nop_form.runs (execNop_spec s 1)⟩

end Sys2Proof.Machine
end

section
/-! ## Faults of decoding and of forms outside the admitted subset (spec 60_exceptions R155 to R162) -/
namespace Sys2Proof

/-! ### What the bytes at PC decode to (R73 to R77) -/

/-- A name no constructor stands for has no handler, whatever bytes follow (R77). -/
theorem dispatch_of_no_builder {d : Descriptor} (missing : d.name.builder = none) (rest : List Byte) :
    dispatch d rest = .noHandler d.name := by
  simp only [dispatch, missing]

namespace Machine

/-- At 0xFFFF the fetch stops after the byte of R73: it does not wrap (R75). -/
theorem State.fetch_of_lone_prefixByte {s : State} (last : s.pc = 0xFFFF) (hb : s.readByte s.pc = s.params.prefixByte) :
    s.fetch = [s.params.prefixByte] := by
  rw [State.fetch, if_pos ⟨last, hb⟩, hb]

/-- Anywhere else the fetch goes on to the byte after PC (R51, R70). -/
theorem State.fetch_of_not_last {s : State} (notLast : s.pc ≠ 0xFFFF) :
    ∃ rest, s.fetch = s.readByte s.pc :: s.readByte (s.pc + 1) :: rest := by
  rw [State.fetch, if_neg fun cut => notLast cut.1]
  exact ⟨_, rfl⟩

/-- A name without a handler makes the step record it and change nothing else (R157). -/
theorem coreStep_of_noHandler {s : State} {name : FormName} (decoded : decode s.params s.fetch = .noHandler name) :
    coreStep s = .next (s.raise (.unimplementedInstruction s.pc name)) := by
  simp only [coreStep, decoded]

/-- An absent secondary key behind the byte of R73 makes the step record both bytes (R74, R155). -/
theorem coreStep_of_absent_secondary {s : State} (hb : s.readByte s.pc = s.params.prefixByte) (notLast : s.pc ≠ 0xFFFF)
    (absent : sectionEntry s.params.table.secondary (s.readByte (s.pc + 1)) = none) :
    coreStep s = .next (s.raise (.unknownOpcode s.pc [s.readByte s.pc, s.readByte (s.pc + 1)])) := by
  obtain ⟨rest, fetched⟩ := State.fetch_of_not_last notLast
  refine coreStep_of_undecodable (i := .absent _) ?_ rfl
  rw [fetched, hb, decode_of_absent_secondary absent]

/-- An entry whose name no constructor stands for, found at the opcode bytes a fetch begins with. -/
theorem coreStep_of_no_builder {s : State} {op rest : List Byte} {d : Descriptor} (missing : d.name.builder = none)
    (fetched : s.fetch = op ++ rest) (entry : s.params.entryAt op = some d) :
    coreStep s = .next (s.raise (.unimplementedInstruction s.pc d.name)) :=
  coreStep_of_noHandler (by rw [fetched, decode_of_entryAt entry, dispatch_of_no_builder missing])

/-- Settles O32: both kinds of absent key (`coreStep_of_absent_primary`, `coreStep_of_absent_secondary`). -/
theorem absentKeyFaults : Obligations.AbsentKeyFaults :=
  fun _ => ⟨coreStep_of_absent_primary, coreStep_of_absent_secondary⟩

/-- Settles O33: the fetch is the byte of R73 alone, which decodes to the cut form. -/
theorem prefixAtLastAddressFaults : Obligations.PrefixAtLastAddressFaults := by
  intro s last hb
  rw [← last] at hb ⊢
  have decoded : decode s.params s.fetch = .undecodable .prefix_CB := by
    rw [State.fetch_of_lone_prefixByte last hb, decode_of_lone_prefixByte]
  exact coreStep_of_undecodable decoded rfl

/-- Settles O34: the entry is that of the one or two opcode bytes at PC (`coreStep_of_no_builder`). -/
theorem unknownNameFaults : Obligations.UnknownNameFaults := by
  refine fun s d missing => ⟨fun hb entry => ?primary, fun hb notLast entry => ?secondary⟩
  case primary =>
    obtain ⟨rest, fetched⟩ := s.fetch_eq_cons
    exact coreStep_of_no_builder (op := [_]) missing fetched (by rw [Params.entryAt_primary hb, entry])
  case secondary =>
    obtain ⟨rest, fetched⟩ := State.fetch_of_not_last notLast
    exact coreStep_of_no_builder (op := [_, _]) missing fetched (by rw [hb, Params.entryAt_secondary, entry])

/-! ### Forms outside the admitted subset (R76, R80, R157) -/

/-- A form without a family records its name: its arm of `exec` is `unimplemented` of the name it stands for. The forms of a family
contradict the hypothesis. -/
theorem exec_of_no_family {i : Instr} {name : FormName} (hv : i.view = .named name) (outside : name.computes = none)
    (s : State) : exec i s = unimplemented name s := by
  cases i <;> cases hv <;> cases outside
  all_goals rfl

/-- A form of some family completes without a fault of its own. -/
theorem exec_of_family {i : Instr} {name : FormName} {m : Computes} (hv : i.view = .named name)
    (family : name.computes = some m) (s : State) : ∃ t, exec i s = .next t ∧ t.fault = s.fault := by
  obtain ⟨u, o, target, ran, -, control, -⟩ := exec_finishes hv family s
  exact ⟨u.jump o target, ran, control.fault⟩

/-- Settles O27: a form is admitted when it has a family (`exec_of_no_family`, `exec_of_family`). -/
theorem faultsExactlyOutsideAdmitted : Obligations.FaultsExactlyOutsideAdmitted := by
  refine ⟨fun i name s hv => ⟨fun outside => ?outside, fun admitted => ?admitted⟩, fun s => ⟨fun _ => rfl, rfl⟩⟩
  case outside => exact exec_of_no_family hv (by simpa [FormName.admitted] using outside) s
  case admitted =>
    obtain ⟨m, family⟩ := Option.isSome_iff_exists.mp admitted
    exact exec_of_family hv family s

/-! ### A faulting step writes nothing else (R160, R161) -/

/-- The interrupt check leaves `fault` as it is (R168, R169). -/
@[simp] theorem State.boundary_fault (s : State) : s.boundary.fault = s.fault := by
  obtain h | ⟨i, -, -, -, h⟩ := boundary_cases s <;> rw [h]
  rfl

/-- Settles O37: an instruction's effect is the fault alone, or leaves `fault` as it was. -/
theorem faultingStepWritesNothing : Obligations.FaultingStepWritesNothing := by
  intro s t h clear faults
  obtain ⟨e, u, effect, rfl⟩ := effect_of_coreStep h
  cases effect with
  | faulted f => exact ⟨f, e, State.boundary_raise _ f⟩
  | ran control _ _ =>
    have stillClear : u.boundary.fault = none := by rw [State.boundary_fault, control.fault, State.hold_fault, clear]
    exact absurd stillClear faults

/-! ### After a fault (R161, R164) -/

/-- The outcome is no fault. -/
def NoFault (r : Res) : Prop := ∀ f, r ≠ .fault f

theorem NoFault.next (t : State) : NoFault (.next t) := nofun

theorem NoFault.refused (r : Refusal) : NoFault (.refused r) := nofun

theorem NoFault.afterExec_exec (i : Instr) (s : State) : NoFault (afterExec (exec i s)) := by
  obtain ⟨t, ran⟩ := Machine.afterExec_exec i s
  rw [ran]
  exact .next t

/-- An instruction step records a fault in its next state and answers none. -/
theorem NoFault.coreStep (s : State) : NoFault (coreStep s) := by
  unfold Machine.coreStep
  split
  next i e _ =>
    split
    next => exact .afterExec_exec i (s.hold e)
    next => exact .refused _
  next i _ => exact .afterExec_exec i s
  next => exact .next _
  next => exact .refused _

theorem NoFault.gateAndStep (s : State) : NoFault (gateAndStep s) := by
  unfold Machine.gateAndStep
  dsimp only
  split
  next => exact .next _
  next => exact .coreStep _

theorem NoFault.afterCommand (s : State) : NoFault (afterCommand s) := by
  unfold Machine.afterCommand
  split
  next => exact .next _
  next => exact .coreStep _

theorem NoFault.hostRequest (s : State) (i : Nat) : NoFault (hostRequest s i) := by
  unfold Machine.hostRequest
  split
  next => exact .next _
  next => exact .refused _

theorem NoFault.atBoundary (s : State) : NoFault (atBoundary s) := by
  unfold Machine.atBoundary
  split
  next => exact .hostRequest _ _
  next => exact .next _
  all_goals exact .gateAndStep _

theorem NoFault.atPause (s : State) : NoFault (atPause s) := by
  unfold Machine.atPause
  split
  next => exact .hostRequest _ _
  next => exact .next _
  next => exact .next _
  next => exact .afterCommand _
  next => exact .refused _

theorem step_of_fault {s : State} {f : Fault} (h : s.fault = some f) : step s = .fault f := by
  simp only [step, loopStep, h]

theorem NoFault.step {s : State} (clear : s.fault = none) : NoFault (step s) := by
  unfold Machine.step loopStep
  rw [clear]
  dsimp only
  split
  next => exact .refused _
  next =>
    split
    next => exact .atPause s
    next => exact .atBoundary s

/-- Settles O36: a recorded fault is answered (`step_of_fault`), and nothing else answers one (`NoFault.step`). -/
theorem noStepAfterFault : Obligations.NoStepAfterFault := by
  refine fun s f => ⟨fun h => ?_, step_of_fault⟩
  cases recorded : s.fault with
  | none => exact absurd h (NoFault.step recorded f)
  | some g =>
    cases (step_of_fault recorded).symm.trans h
    rfl

end Machine
end Sys2Proof
end

section
/-! ## Interrupts (spec 60_exceptions R167 to R170) -/
namespace Sys2Proof.Machine

/-! ### The move of the run loop, by where it stands (R164) -/

theorem step_of_boundary {s : State} (clear : s.fault = none) (runs : s.ended = false) (free : s.suspended = false) :
    step s = atBoundary s := by
  simp [step, loopStep, clear, runs, free]

theorem step_of_pause {s : State} (clear : s.fault = none) (runs : s.ended = false) (pause : s.suspended = true) :
    step s = atPause s := by
  simp [step, loopStep, clear, runs, pause]

/-- A request acts at a boundary and at a pause alike (R167, R189). -/
theorem step_of_request {s : State} {i : Nat} {rest : List HostMove} (clear : s.fault = none) (runs : s.ended = false)
    (move : s.host = .request i :: rest) : step s = hostRequest (s.withHost rest) i := by
  cases pause : s.suspended with
  | false => simp only [step_of_boundary clear runs pause, atBoundary, move, State.withHost]
  | true => simp only [step_of_pause clear runs pause, atPause, move, State.withHost]

theorem hostRequest_of_lt {s : State} {i : Nat} (inRange : i < s.irq.length) :
    hostRequest s i = .next { s with irq := setPending i true s.irq } := by
  simp only [hostRequest, State.request, if_pos inRange]

theorem hostRequest_of_le {s : State} {i : Nat} (beyond : s.irq.length ≤ i) : hostRequest s i = .refused .noSuchMove := by
  simp only [hostRequest, State.request, if_neg (Nat.not_lt.mpr beyond)]

theorem setPending_getElem?_self (i : Nat) (v : Bool) (l : List IrqSource) :
    (setPending i v l)[i]? = l[i]?.map fun src => { src with pending := v } := by
  rw [setPending_getElem?, if_pos rfl]

theorem setPending_getElem?_other {i j : Nat} (other : j ≠ i) (v : Bool) (l : List IrqSource) :
    (setPending i v l)[j]? = l[j]? := by
  rw [setPending_getElem?, if_neg other.symm]

/-- Settles O47: a request in range is `setPending` of its source and nothing else; beyond it is refused. -/
theorem requestSetsPending : Obligations.RequestSetsPending := by
  intro s i rest clear runs move
  rw [step_of_request clear runs move]
  refine ⟨fun inRange => ⟨_, hostRequest_of_lt inRange, ?_, fun j other => ?_, rfl⟩, fun beyond => hostRequest_of_le beyond⟩
  · exact setPending_getElem?_self i true s.irq
  · exact setPending_getElem?_other other true s.irq

/-! ### Vectoring (R169) -/

@[simp] theorem State.reg_vector (s : State) (i : Nat) (r : Reg8) : (s.vector i).reg r = s.reg r := by
  rw [State.reg_congr (s.vector_regs i), State.reg_push16]

@[simp] theorem State.sp_vector (s : State) (i : Nat) : (s.vector i).reg16 .SP = s.reg16 .SP - 2 := by
  rw [State.reg16_congr (s.vector_regs i), State.sp_push16, sub_one_sub_one]

/-- Vectoring writes memory as the push of PC does. -/
@[simp] theorem State.readByte_vector (s : State) (i : Nat) (a : Word) :
    (s.vector i).readByte a = (s.push16 s.pc).readByte a :=
  State.readByte_congr (s.vector_mem i) a

/-- A push writes no byte but the two below SP. -/
theorem MemUnchangedExcept.push16 (s : State) (v : Word) :
    MemUnchangedExcept [s.reg16 .SP - 1, s.reg16 .SP - 2] s (s.push16 v) :=
  (FrameSp.push16_jump s v .noResult 0).mem

/-- Settles O45: field by field; the bytes are those of the push of PC. -/
theorem vectoringEffect : Obligations.VectoringEffect := by
  intro s i src source
  refine ⟨?cleared, fun j other => ?others, rfl, s.sp_vector i, ?high, ?low, State.vec_of_source source, rfl,
    fun r _ => s.reg_vector i r, fun a other => ?mem, rfl⟩
  case cleared => rw [State.vector_irq, setPending_getElem?_self, source, Option.map_some]
  case others => exact setPending_getElem?_other other false s.irq
  case high => rw [State.readByte_vector, State.readByte_push16_high, toNat_hiByte]
  case low => rw [State.readByte_vector, ← sub_one_sub_one, State.readByte_push16_low, toNat_loByte]
  case mem => rw [State.readByte_vector, MemUnchangedExcept.push16 s s.pc a other]

/-! ### The interrupt check (R168, R170) -/

/-- The source asks for the check: it is pending and enabled. -/
def IrqSource.ready (src : IrqSource) : Bool := src.pending && src.enable

theorem IrqSource.ready_iff (src : IrqSource) : src.ready = true ↔ src.pending = true ∧ src.enable = true := by
  simp [IrqSource.ready]

/-- The check takes the first ready source of the list. -/
theorem firstPending_eq_findIdx? (l : List IrqSource) : firstPending l = l.findIdx? IrqSource.ready := by
  induction l with
  | nil => rfl
  | cons src l ih => rw [firstPending, List.findIdx?_cons, ih]; rfl

theorem postInstructionCheck_of_ime_clear {s : State} (off : s.ime = false) : s.postInstructionCheck = s := by
  simp [State.postInstructionCheck, off]

theorem postInstructionCheck_of_none {s : State} (idle : firstPending s.irq = none) : s.postInstructionCheck = s := by
  simp [State.postInstructionCheck, idle]

theorem postInstructionCheck_of_some {s : State} {i : Nat} (on : s.ime = true) (first : firstPending s.irq = some i) :
    s.postInstructionCheck = s.vector i := by
  simp [State.postInstructionCheck, on, first]

/-- Settles O46: the source taken is the first ready one (`firstPending_eq_findIdx?`). -/
theorem checkTakesFirstPending : Obligations.CheckTakesFirstPending := by
  intro s
  refine ⟨postInstructionCheck_of_ime_clear, fun on => ⟨fun idle => ?idle, fun i src source pending enable before => ?first⟩⟩
  case idle =>
    refine postInstructionCheck_of_none ?_
    rw [firstPending_eq_findIdx?, List.findIdx?_eq_none_iff]
    exact fun src mem => Bool.eq_false_iff.mpr (mt src.ready_iff.mp (idle src mem))
  case first =>
    refine postInstructionCheck_of_some on ?_
    rw [firstPending_eq_findIdx?, List.findIdx?_eq_some_iff_getElem]
    obtain ⟨inRange, rfl⟩ := List.getElem?_eq_some_iff.mp source
    refine ⟨inRange, (IrqSource.ready_iff _).mpr ⟨pending, enable⟩, fun j earlier => ?_⟩
    exact mt (IrqSource.ready_iff _).mp (before j _ earlier (List.getElem?_eq_getElem _))

end Sys2Proof.Machine
end

section
/-! ## The debug sequencer (spec 60_exceptions R179 to R188) -/
namespace Sys2Proof.Machine

/-! ### The gate (R179, R181) -/

theorem State.atBreakpoint_iff (s : State) : s.atBreakpoint = true ↔ some s.pc ∈ s.bp :=
  List.contains_iff_mem

theorem State.gate_of_breakpoint {s : State} (here : some s.pc ∈ s.bp) :
    s.gate = { s with mode := .pausedAtBreakpoint, stepping := true, suspended := true } := by
  rw [State.gate, if_pos (s.atBreakpoint_iff.mpr here)]

theorem State.gate_of_stepping {s : State} (elsewhere : some s.pc ∉ s.bp) (stepping : s.stepping = true) :
    s.gate = { s with mode := .steppingOneInstruction, suspended := true } := by
  rw [State.gate, if_neg (mt s.atBreakpoint_iff.mp elsewhere), if_pos stepping]

theorem State.gate_of_running {s : State} (elsewhere : some s.pc ∉ s.bp) (running : s.stepping = false) : s.gate = s := by
  rw [State.gate, if_neg (mt s.atBreakpoint_iff.mp elsewhere), if_neg (Bool.eq_false_iff.mp running)]

/-- Settles O48: with no host move a step at a boundary is the gate, then the instruction if the gate passes. -/
theorem gatePauses : Obligations.GatePauses := by
  intro s clear runs free quiet
  have gated : step s = gateAndStep s := by simp only [step_of_boundary clear runs free, atBoundary, quiet]
  rw [gated, gateAndStep]
  refine ⟨fun here => ?_, fun elsewhere stepping => ?_, fun elsewhere running => ?_⟩
  · rw [State.gate_of_breakpoint here]
    rfl
  · rw [State.gate_of_stepping elsewhere stepping]
    rfl
  · rw [State.gate_of_running elsewhere running]
    exact if_neg (Bool.eq_false_iff.mp free)

/-- Settles O49: `gate_same` and `SameArch.command`. -/
theorem debugKeepsArchitecture : Obligations.DebugKeepsArchitecture :=
  fun s line => ⟨(gate_same s).1, .command s line⟩

/-! ### A command line is the command it is read as (R180, R182, R187) -/

section
variable {line : List Char} (s : State)

theorem State.command_of_stepOne (h : parseCommand line = some .stepOne) : s.command line = s.cmdStep := by
  simp only [State.command, h]

theorem State.command_of_resume (h : parseCommand line = some .resume) : s.command line = s.cmdContinue := by
  simp only [State.command, h]

theorem State.command_of_setBreak {a : Word} (h : parseCommand line = some (.setBreak a)) :
    s.command line = s.cmdBreak a := by
  simp only [State.command, h]

theorem State.command_of_deleteSlot {k : Nat} (h : parseCommand line = some (.deleteSlot k)) :
    s.command line = s.cmdDelete k := by
  simp only [State.command, h]

theorem State.command_of_rejected (h : parseCommand line = none) : s.command line = s.reply .invalidDebugCommand := by
  simp only [State.command, h]

end

/-- At a pause a step takes the command line. -/
theorem step_of_command {s : State} {line : List Char} {rest : List HostMove} (clear : s.fault = none) (runs : s.ended = false)
    (pause : s.suspended = true) (move : s.host = .command line :: rest) :
    step s = afterCommand ((s.withHost rest).command line) := by
  simp only [step_of_pause clear runs pause, atPause, move, State.withHost]

theorem afterCommand_of_resumed {s : State} (resumed : s.suspended = false) : afterCommand s = coreStep s :=
  if_neg (Bool.eq_false_iff.mp resumed)

theorem afterCommand_of_suspended {s : State} (pause : s.suspended = true) : afterCommand s = .next s :=
  if_pos pause

/-- Settles O50: `cmdStep` resumes. -/
theorem stepCommandRunsOne : Obligations.StepCommandRunsOne := by
  intro s line rest read clear runs pause move
  rw [step_of_command clear runs pause move, State.command_of_stepOne _ read]
  exact afterCommand_of_resumed rfl

/-- Settles O51: `cmdContinue` resumes, and `afterCommand` has no gate. -/
theorem continueRunsOn : Obligations.ContinueRunsOn := by
  intro s line rest read clear runs pause move
  rw [step_of_command clear runs pause move, State.command_of_resume _ read]
  exact afterCommand_of_resumed rfl

/-- Settles O54: a rejected line is only answered, and the prompt stays. -/
theorem invalidCommandChangesNothing : Obligations.InvalidCommandChangesNothing := by
  intro s line rest rejected clear runs pause move
  rw [step_of_command clear runs pause move, State.command_of_rejected _ rejected]
  exact afterCommand_of_suspended pause

/-- Settles O52: the slot is the last one, so its index is the length. -/
theorem breakAppendsSlot : Obligations.BreakAppendsSlot := by
  intro s line a read
  rw [s.command_of_setBreak read, List.length_append]
  rfl

/-! ### Deleting a slot (R182, R186) -/

theorem pos_of_parseIndex {t : List Char} {k : Nat} (h : parseIndex t = some k) : 1 ≤ k := by
  unfold parseIndex at h
  split at h
  next =>
    split at h <;> cases h
    assumption
  next => cases h

/-- The grammar gives `delete` no index but one read by `parseIndex`. -/
theorem parseIndex_of_deleteSlot {line : List Char} {k : Nat} (h : parseCommand line = some (.deleteSlot k)) :
    ∃ arg, parseIndex arg = some k := by
  unfold parseCommand at h
  split at h
  next => cases h
  next =>
    split at h
    next => cases h
    next => split at h <;> cases h
  next kw arg _ =>
    split at h
    next => simp at h
    next =>
      split at h
      next => exact ⟨arg, by simpa using h⟩
      next => cases h
  next => cases h

theorem State.slot_of_pos (s : State) {k : Nat} (pos : 1 ≤ k) : s.slot k = s.bp[k - 1]? :=
  if_neg (Nat.ne_of_gt pos)

theorem State.cmdDelete_of_live {s : State} {k : Nat} {a : Word} (live : s.slot k = some (some a)) :
    s.cmdDelete k = State.reply { s with bp := s.bp.set (k - 1) none } .ack := by
  simp only [State.cmdDelete, live]

theorem State.cmdDelete_of_not_live {s : State} {k : Nat} (gone : ¬∃ a, s.slot k = some (some a)) :
    s.cmdDelete k = s.reply .invalidDebugCommand := by
  unfold State.cmdDelete
  split
  next a live => exact absurd ⟨a, live⟩ gone
  next => rfl
  next => rfl

/-- Settles O53: a live slot is overwritten in place, any other index is only answered. -/
theorem deleteLeavesGap : Obligations.DeleteLeavesGap := by
  intro s line k read
  obtain ⟨arg, index⟩ := parseIndex_of_deleteSlot read
  have pos : 1 ≤ k := pos_of_parseIndex index
  rw [s.command_of_deleteSlot read, ← s.slot_of_pos pos]
  refine ⟨pos, ?_⟩
  by_cases live : ∃ a, s.slot k = some (some a)
  case pos =>
    obtain ⟨a, at_k⟩ := live
    have inRange : k - 1 < s.bp.length := (List.getElem?_eq_some_iff.mp (s.slot_of_pos pos ▸ at_k)).1
    rw [State.cmdDelete_of_live at_k]
    exact ⟨rfl, List.length_set, fun j other => List.getElem?_set_ne other.symm,
      fun _ => List.getElem?_set_self inRange, fun gone => absurd ⟨a, at_k⟩ gone⟩
  case neg =>
    rw [State.cmdDelete_of_not_live live]
    exact ⟨rfl, rfl, fun _ _ => rfl, fun h => absurd h live, fun _ => rfl⟩

/-- Settles O55, by reading the lines. -/
theorem grammarReadsTraceLines : Obligations.GrammarReadsTraceLines := by
  unfold Obligations.GrammarReadsTraceLines
  decide +kernel

end Sys2Proof.Machine
end

section
/-! ## The start of a run (spec 70_reset_and_hazards R190 to R198) -/
namespace Sys2Proof.Machine

/-! ### Reading memory after a load (spec 20_memory R44, R46) -/

/-- A load of at most 64 KiB never writes an address twice: byte `i` stands at `offset + i`, and an address past the end keeps its
byte. -/
theorem Memory.read_load {bytes : List Byte} (fits : bytes.length ≤ 65536) (offset a : Word) (m : Memory) :
    (m.load offset bytes).read a.toNat = bytes[(a - offset).toNat]?.getD (m.read a.toNat) := by
  induction bytes generalizing offset m with
  | nil => rfl
  | cons b bs ih =>
    rw [List.length_cons] at fits
    rw [Memory.load, ih (by omega), Memory.read_write]
    by_cases here : a = offset
    case pos =>
      have beyond : bs.length ≤ 65535 := by omega
      simp [here, beyond]
    case neg =>
      have later : (a - offset).toNat = (a - (offset + 1)).toNat + 1 := by bv_omega
      rw [later, List.getElem?_cons_succ, if_neg (mt BitVec.eq_of_toNat_eq here)]

/-! ### What `launch` answers -/

theorem Launch.accepted_iff (x : Launch) :
    x.accepted = true ↔ x.params.table.wellFormed = true ∧ x.seed.length ≤ 65536 ∧ x.mem.wf = true := by
  simp only [Launch.accepted, Bool.and_eq_true, decide_eq_true_eq, and_assoc]

/-- What the state a run starts in holds (R190, R192 to R197). -/
structure Launch.Starts (x : Launch) (s : State) : Prop where
  pc : s.pc = 0
  bp : s.bp = []
  fault : s.fault = none
  suspended : s.suspended = false
  stepping : s.stepping = x.debugMode
  mode : s.mode = if x.debugMode then .steppingOneInstruction else .running
  mem : s.mem = x.mem.load 0 x.seed
  regs : s.regs = x.regs
  flags : s.flags = x.flags
  ime : s.ime = x.ime
  irq : s.irq = x.irq
  params : s.params = x.params

theorem launch_isSome_iff (x : Launch) : (∃ s, launch x = some s) ↔ x.accepted = true := by
  simp [launch]

theorem launch_eq_none_iff (x : Launch) : launch x = none ↔ ¬x.accepted = true := by
  simp [launch]

theorem starts_of_launch {x : Launch} {s : State} (h : launch x = some s) : x.Starts s := by
  rw [launch, if_pos ((launch_isSome_iff x).mp ⟨s, h⟩)] at h
  cases h
  constructor <;> rfl

theorem launch_reference : launch Launch.reference = some State.reset :=
  if_pos (by decide +kernel)

/-! ### The invariant at the start -/

/-- A seed keeps memory canonical, `stepping` and `mode` both follow DEBUG_MODE (R196), and no run starts suspended. -/
theorem Launch.Starts.inv {x : Launch} {s : State} (start : x.Starts s) (ok : x.accepted = true) : s.Inv := by
  obtain ⟨table, -, mem⟩ := x.accepted_iff.mp ok
  exact
    { mem := start.mem ▸ Memory.wf_load x.seed 0 mem
      table := start.params ▸ table
      mode := by rw [start.stepping, start.mode]; cases x.debugMode <;> decide
      pause := fun paused => absurd paused (by simp [start.suspended]) }

theorem State.Inv.launch {x : Launch} {s : State} (h : launch x = some s) : s.Inv :=
  (starts_of_launch h).inv ((launch_isSome_iff x).mp ⟨s, h⟩)

/-- Settles O41: acceptance is the only way to a start (`launch_isSome_iff`), and a start meets the invariant. -/
theorem launchMeetsInv : Obligations.LaunchMeetsInv := by
  refine fun x => ⟨fun ok => ?_, fun _ => State.Inv.launch⟩
  obtain ⟨s, h⟩ := (launch_isSome_iff x).mpr ok
  exact ⟨s, h, .launch h⟩

/-- Settles O40: `State.reset` is the start for the reference inputs. -/
theorem resetMeetsInv : Obligations.ResetMeetsInv :=
  State.Inv.launch launch_reference

/-! ### Memory at the start -/

/-- The bytes at the start: the seed from address 0 on, and behind it the launch values (R192, R198). -/
theorem Launch.Starts.readByte {x : Launch} {s : State} (start : x.Starts s) (fits : x.seed.length ≤ 65536) (a : Word) :
    s.readByte a = x.seed[a.toNat]?.getD (x.mem.read a.toNat) := by
  rw [State.readByte, start.mem, Memory.read_load fits, sub_zero]

/-- Settles O60: the refusals are read off `Launch.accepted_iff`, the values off `Launch.Starts`. -/
theorem startValues : Obligations.StartValues := by
  intro x
  refine ⟨fun long => ?longSeed, fun ill => ?illFormed, x.accepted_iff, (launch_isSome_iff x).mpr, fun s h => ?values⟩
  case longSeed =>
    rw [launch_eq_none_iff, x.accepted_iff]
    exact fun ⟨_, fits, _⟩ => Nat.not_le.mpr long fits
  case illFormed =>
    rw [launch_eq_none_iff, x.accepted_iff]
    exact fun ⟨table, _, _⟩ => absurd table (by simp [ill])
  case values =>
    have start := starts_of_launch h
    obtain ⟨-, fits, -⟩ := x.accepted_iff.mp ((launch_isSome_iff x).mp ⟨s, h⟩)
    have seeded (a : Word) (inside : a.toNat < x.seed.length) : s.readByte a = x.seed[a.toNat] := by
      simp [start.readByte fits, inside]
    have unseeded (a : Word) (beyond : x.seed.length ≤ a.toNat) : s.readByte a = x.mem.read a.toNat := by
      simp [start.readByte fits, beyond]
    exact ⟨start.pc, start.bp, start.fault, start.stepping, start.mode, seeded, unseeded, start.regs, start.flags, start.ime,
      start.irq, start.params⟩

end Sys2Proof.Machine
end
